-- ==== Sys2Proof/Word.lean ====
section
/-! DEFINITION. The word types of the machine (00_scope.md R6, R9): one width each, all unsigned. -/

namespace Sys2Proof

/-- A byte of the data bus, a register of the CPU (R6). -/
abbrev Byte := BitVec 8

/-- A 16-bit CPU address, the width of PC (R6). -/
abbrev Word := BitVec 16

/-- The 13-bit address that reaches the bus (20_memory.md R80). -/
abbrev Addr13 := BitVec 13

end Sys2Proof
end

