-- ==== Sys2Proof/Config.lean ====
section
/-! DEFINITION. What is fixed for a machine: the named parameters of 00_scope.md R8, and the free values and
open parameters, which are constants without a body (R14: a proof can use no value of theirs). A free value is
applied to the draw counter of the state, so each draw is fresh (log 6). -/

namespace Sys2Proof.Config

/-- Delay-queue slots, DQ_CAPACITY (R8). -/
def dqCapacity : Nat := 16

/-- PF_DELAY (R8): colour clocks from the service of a playfield write to its commit. -/
def pfDelay : Nat := 5

/-- RES_DELAY_HBLANK (R8). -/
def resDelayHblank : Nat := 2

/-- RES_DELAY_ACTIVE (R8). -/
def resDelayActive : Nat := 4

/-- HSYNC_EVENT_DELAY (R8). -/
def hsyncEventDelay : Nat := 4

/-- The first ripple value of an HMOVE, HMOVE_STEPS - 1 = 15 (R8, 61_tia_clock.md R361). -/
def hmoveFirst : Fin 16 := 15

/-- Undriven data-bus bits of a TIA read (62_tia_objects.md R381, R440; 20_memory.md R89). -/
opaque undriven : Nat → Byte

/-- The port A pins, joystick directions (63_riot.md R470). -/
opaque pinA : Nat → Byte

/-- The port B pins, console switches (63_riot.md R470). -/
opaque pinB : Nat → Byte

/-- The pin of fire button 4, 1 = released (62_tia_objects.md R442). -/
opaque button4 : Nat → Bool

/-- The pin of fire button 5, 1 = released (62_tia_objects.md R442). -/
opaque button5 : Nat → Bool

/-- Bit 7 of paddle input INPT0..3 while not dumped (62_tia_objects.md R441). -/
opaque paddle : BitVec 2 → Nat → Bool

/-- XAA_MAGIC, drawn at each execution (47_undocumented.md R283). -/
opaque xaaMagic : Nat → Byte

/-- RESMP_OFFSET, the open parameter of 62_tia_objects.md R388: a function of the player mode. -/
opaque resmpOffset : BitVec 3 → Fin 160

/-- NV_BUG_OPCODES, the open parameter of 60_exceptions.md R306: which undocumented opcodes report
LateNVFlags. -/
opaque nvBugOpcode : Byte → Bool

/-! The functions of a host-supplied cartridge (20_memory.md R88). Its state is the host's; it is held as a
natural number, a code of whatever state the host's cartridge has (log 4). -/

/-- cart.read: the byte, and the cartridge state after it. -/
opaque cartRead : Nat → BitVec 12 → Byte × Nat

/-- cart.write. -/
opaque cartWrite : Nat → BitVec 12 → Byte → Nat

/-- cart.listen, called with every bus access of the CPU (20_memory.md R86, R87). -/
opaque cartListen : Nat → Addr13 → Byte → Nat

/-- cart.step, called once per CPU cycle (64_scheduler.md R490). -/
opaque cartStep : Nat → Nat

end Sys2Proof.Config
end

