-- ==== Sys2Proof/Syntax.lean ====
section
/-! DEFINITION. Instructions as data: one constructor of Instr for each of the 256 rows of
spec/opcode_table.json (30_encoding.md R113, R114), with the operand bytes that the row's mode gives it
(R110, R111), and the vocabulary of the opcode table: mnemonics, modes, effect categories. -/

namespace Sys2Proof

/-- The addressing modes of 30_encoding.md R110; opcodeOnly is the table's format of an invalid opcode. -/
inductive Mode where
  | implied | immediate | zeroPage | zeroPageX | zeroPageY | absolute | absoluteX | absoluteY
  | indirect | preIndexed | postIndexed | relative | opcodeOnly
  deriving DecidableEq, Repr

/-- The effect categories of 30_encoding.md R116. -/
inductive Effect where
  | read | write | rmw | flow | subroutine | interrupt
  deriving DecidableEq, Repr

/-- The mnemonics of the opcode table (30_encoding.md R114, R115). -/
inductive Mnemonic where
  | lda | ldx | ldy | sta | stx | sty | tax | tay | txa | tya | tsx | txs
  | pha | php | pla | plp | adc | sbc | and | ora | eor | bit | cmp | cpx
  | cpy | inc | dec | inx | iny | dex | dey | asl | lsr | rol | ror | clc
  | sec | cli | sei | cld | sed | clv | nop | bcc | bcs | beq | bne | bmi
  | bpl | bvc | bvs | jmp | jsr | rts | brk | rti | lax | sax | dcp | isc
  | slo | anc | alr | arr | xaa | axs | invalid
  deriving DecidableEq, Repr

/-- One row of the opcode map as R113 lists its columns. An invalid opcode has no effect category. -/
structure Row where
  opcode        : Byte
  mnemonic      : Mnemonic
  mode          : Mode
  cycles        : Nat
  pageSensitive : Bool
  effect        : Option Effect
  documented    : Bool
  deriving DecidableEq, Repr

/-- A memory operand with its operand bytes, before its address is computed (30_encoding.md R111). -/
inductive MemMode where
  | zeroPage (b1 : Byte)
  | zeroPageX (b1 : Byte)
  | zeroPageY (b1 : Byte)
  | absolute (addr : Word)
  | absoluteX (addr : Word)
  | absoluteY (addr : Word)
  | preIndexed (b1 : Byte)
  | postIndexed (b1 : Byte)
  deriving DecidableEq, Repr

/-- Where a READ instruction takes its operand from. -/
inductive Source where
  | immediate (imm : Byte)
  | memory (m : MemMode)
  deriving DecidableEq, Repr

/-- The operand of an instruction: a source read, a memory operand written or modified, the accumulator, a
branch offset, a jump target or a jump pointer. -/
inductive Operand where
  | implied
  | accumulator
  | source (src : Source)
  | memory (m : MemMode)
  | relative (off : Byte)
  | target (addr : Word)
  | pointer (ptr : Word)
  deriving DecidableEq, Repr

/-- One constructor per row of spec/opcode_table.json. Suffixes name the mode: Imm immediate, Zp zero page,
ZpX and ZpY indexed zero page, Abs absolute, AbsX and AbsY indexed absolute, IzX pre-index indirect, IzY
post-index indirect, Ind indirect, Acc accumulator. Rows that share mnemonic and mode carry their opcode. -/
inductive Instr where
  -- 41_load_store.md
  | ldaIzX (b1 : Byte) | ldaZp (b1 : Byte) | ldaImm (imm : Byte) | ldaAbs (addr : Word) | ldaIzY (b1 : Byte)
  | ldaZpX (b1 : Byte) | ldaAbsY (addr : Word) | ldaAbsX (addr : Word)
  | ldxImm (imm : Byte) | ldxZp (b1 : Byte) | ldxAbs (addr : Word) | ldxZpY (b1 : Byte) | ldxAbsY (addr : Word)
  | ldyImm (imm : Byte) | ldyZp (b1 : Byte) | ldyAbs (addr : Word) | ldyZpX (b1 : Byte) | ldyAbsX (addr : Word)
  | staIzX (b1 : Byte) | staZp (b1 : Byte) | staAbs (addr : Word) | staIzY (b1 : Byte) | staZpX (b1 : Byte)
  | staAbsY (addr : Word) | staAbsX (addr : Word)
  | stxZp (b1 : Byte) | stxAbs (addr : Word) | stxZpY (b1 : Byte)
  | styZp (b1 : Byte) | styAbs (addr : Word) | styZpX (b1 : Byte)
  -- 42_transfer_stack.md
  | tax
  | tay
  | txa
  | tya
  | tsx
  | txs
  | pha
  | php
  | pla
  | plp
  -- 43_arith_logic.md
  | adcIzX (b1 : Byte) | adcZp (b1 : Byte) | adcImm (imm : Byte) | adcAbs (addr : Word) | adcIzY (b1 : Byte)
  | adcZpX (b1 : Byte) | adcAbsY (addr : Word) | adcAbsX (addr : Word)
  | sbcIzX (b1 : Byte) | sbcZp (b1 : Byte) | sbcImm (imm : Byte) | sbcAbs (addr : Word) | sbcIzY (b1 : Byte)
  | sbcZpX (b1 : Byte) | sbcAbsY (addr : Word) | sbcAbsX (addr : Word)
  | andIzX (b1 : Byte) | andZp (b1 : Byte) | andImm (imm : Byte) | andAbs (addr : Word) | andIzY (b1 : Byte)
  | andZpX (b1 : Byte) | andAbsY (addr : Word) | andAbsX (addr : Word)
  | oraIzX (b1 : Byte) | oraZp (b1 : Byte) | oraImm (imm : Byte) | oraAbs (addr : Word) | oraIzY (b1 : Byte)
  | oraZpX (b1 : Byte) | oraAbsY (addr : Word) | oraAbsX (addr : Word)
  | eorIzX (b1 : Byte) | eorZp (b1 : Byte) | eorImm (imm : Byte) | eorAbs (addr : Word) | eorIzY (b1 : Byte)
  | eorZpX (b1 : Byte) | eorAbsY (addr : Word) | eorAbsX (addr : Word)
  | bitZp (b1 : Byte) | bitAbs (addr : Word)
  | cmpIzX (b1 : Byte) | cmpZp (b1 : Byte) | cmpImm (imm : Byte) | cmpAbs (addr : Word) | cmpIzY (b1 : Byte)
  | cmpZpX (b1 : Byte) | cmpAbsY (addr : Word) | cmpAbsX (addr : Word)
  | cpxImm (imm : Byte) | cpxZp (b1 : Byte) | cpxAbs (addr : Word)
  | cpyImm (imm : Byte) | cpyZp (b1 : Byte) | cpyAbs (addr : Word)
  | incZp (b1 : Byte) | incAbs (addr : Word) | incZpX (b1 : Byte) | incAbsX (addr : Word)
  | decZp (b1 : Byte) | decAbs (addr : Word) | decZpX (b1 : Byte) | decAbsX (addr : Word)
  | inx
  | iny
  | dex
  | dey
  -- 44_shift_rotate.md
  | aslZp (b1 : Byte) | aslAcc | aslAbs (addr : Word) | aslZpX (b1 : Byte) | aslAbsX (addr : Word)
  | lsrZp (b1 : Byte) | lsrAcc | lsrAbs (addr : Word) | lsrZpX (b1 : Byte) | lsrAbsX (addr : Word)
  | rolZp (b1 : Byte) | rolAcc | rolAbs (addr : Word) | rolZpX (b1 : Byte) | rolAbsX (addr : Word)
  | rorZp (b1 : Byte) | rorAcc | rorAbs (addr : Word) | rorZpX (b1 : Byte) | rorAbsX (addr : Word)
  -- 45_flags_nop.md
  | clc
  | sec
  | cli
  | sei
  | cld
  | sed
  | clv
  -- 45_flags_nop.md, 47_undocumented.md
  | nopZp04 (b1 : Byte) | nopAbs (addr : Word) | nopZpX14 (b1 : Byte) | nop1A | nopAbsX1C (addr : Word)
  | nopZpX34 (b1 : Byte) | nop3A | nopAbsX3C (addr : Word) | nopZp44 (b1 : Byte) | nopZpX54 (b1 : Byte) | nop5A
  | nopAbsX5C (addr : Word) | nopZp64 (b1 : Byte) | nopZpX74 (b1 : Byte) | nop7A | nopAbsX7C (addr : Word)
  | nopImm80 (imm : Byte) | nopImm82 (imm : Byte) | nopImm89 (imm : Byte) | nopImmC2 (imm : Byte)
  | nopZpXD4 (b1 : Byte) | nopDA | nopAbsXDC (addr : Word) | nopImmE2 (imm : Byte) | nop | nopZpXF4 (b1 : Byte)
  | nopFA | nopAbsXFC (addr : Word)
  -- 46_control.md
  | bcc (off : Byte)
  | bcs (off : Byte)
  | beq (off : Byte)
  | bne (off : Byte)
  | bmi (off : Byte)
  | bpl (off : Byte)
  | bvc (off : Byte)
  | bvs (off : Byte)
  | jmpAbs (target : Word) | jmpInd (ptr : Word)
  | jsr (target : Word)
  | rts
  | brk
  | rti
  -- 47_undocumented.md
  | laxIzX (b1 : Byte) | laxZp (b1 : Byte) | laxAbs (addr : Word) | laxIzY (b1 : Byte) | laxZpY (b1 : Byte)
  | laxAbsY (addr : Word)
  | saxIzX (b1 : Byte) | saxZp (b1 : Byte) | saxAbs (addr : Word) | saxZpY (b1 : Byte)
  | dcpIzX (b1 : Byte) | dcpZp (b1 : Byte) | dcpAbs (addr : Word) | dcpIzY (b1 : Byte) | dcpZpX (b1 : Byte)
  | dcpAbsY (addr : Word) | dcpAbsX (addr : Word)
  | iscIzX (b1 : Byte) | iscZp (b1 : Byte) | iscAbs (addr : Word) | iscIzY (b1 : Byte) | iscZpX (b1 : Byte)
  | iscAbsY (addr : Word) | iscAbsX (addr : Word)
  | sloIzX (b1 : Byte) | sloZp (b1 : Byte) | sloAbs (addr : Word) | sloIzY (b1 : Byte) | sloZpX (b1 : Byte)
  | sloAbsY (addr : Word) | sloAbsX (addr : Word)
  | ancImm0B (imm : Byte) | ancImm2B (imm : Byte)
  | alrImm (imm : Byte)
  | arrImm (imm : Byte)
  | xaaImm (imm : Byte)
  | axsImm (imm : Byte)
  -- 30_encoding.md R118: the opcodes that raise InvalidOpcode
  | invalid02 | invalid12 | invalid22 | invalid23 | invalid27 | invalid2F | invalid32 | invalid33 | invalid37
  | invalid3B | invalid3F | invalid42 | invalid43 | invalid47 | invalid4F | invalid52 | invalid53 | invalid57
  | invalid5B | invalid5F | invalid62 | invalid63 | invalid67 | invalid6F | invalid72 | invalid73 | invalid77
  | invalid7B | invalid7F | invalid92 | invalid93 | invalid9B | invalid9C | invalid9E | invalid9F | invalidAB
  | invalidB2 | invalidBB | invalidD2 | invalidEB | invalidF2
  deriving DecidableEq, Repr

/-- How an instruction's bytes are laid out and fetched. -/
inductive Shape where
  /-- the opcode alone -/
  | bare (i : Instr)
  /-- one operand byte (cycle 2 of 40_addressing.md R142 to R152) -/
  | byte (f : Byte → Instr)
  /-- two operand bytes, low first (cycles 2 and 3 of R146) -/
  | word (f : Word → Instr)
  /-- as word, but PC is not advanced past the last byte (JMP absolute, 46_control.md R259) -/
  | jump (f : Word → Instr)
  /-- as word, but the second byte is read by the instruction itself, in cycle 6 (JSR, 46_control.md R260) -/
  | call (f : Word → Instr)

/-- One cell of the opcode map of 30_encoding.md R114, with the shape of its instruction. -/
structure Entry where
  mnemonic   : Mnemonic
  mode       : Mode
  cycles     : Nat
  effect     : Option Effect
  documented : Bool
  shape      : Shape

/-- Why a list of bytes holds no instruction. Every opcode byte names a row, so a list is refused only for
being too short. -/
inductive DecodeError where
  /-- there is no opcode byte -/
  | noBytes
  /-- the opcode needs more operand bytes than the list holds -/
  | missingOperand (opcode : Byte)
  deriving DecidableEq, Repr

end Sys2Proof
end

