-- ==== Sys2Proof/WellFormed.lean ====
section
/-! DEFINITION. What it takes for an instruction to be one this hardware runs. Operand widths are carried by
the types of Instr's fields (30_encoding.md R111), so the one check left is that the opcode is admitted
(R115, R118). -/

namespace Sys2Proof

/-- The opcodes that raise InvalidOpcode (30_encoding.md R118), as constructors. -/
def Instr.isInvalid : Instr → Bool
  | .invalid02 | .invalid12 | .invalid22 | .invalid23 | .invalid27 | .invalid2F | .invalid32 | .invalid33
  | .invalid37 | .invalid3B | .invalid3F | .invalid42 | .invalid43 | .invalid47 | .invalid4F | .invalid52
  | .invalid53 | .invalid57 | .invalid5B | .invalid5F | .invalid62 | .invalid63 | .invalid67 | .invalid6F
  | .invalid72 | .invalid73 | .invalid77 | .invalid7B | .invalid7F | .invalid92 | .invalid93 | .invalid9B
  | .invalid9C | .invalid9E | .invalid9F | .invalidAB | .invalidB2 | .invalidBB | .invalidD2 | .invalidEB
  | .invalidF2 => true
  | _ => false

/-- An instruction is well formed when its opcode is one of the 215 the hardware admits (R115). -/
def Instr.wellFormed (i : Instr) : Bool := !i.isInvalid

end Sys2Proof
end

