-- ==== Sys2Proof/Decode.lean ====
section
/-! DEFINITION. Decoding and encoding: byte order, the opcode map (30_encoding.md R114, rows are high
nibbles, columns low nibbles), decode (total, from bytes), encode. -/

namespace Sys2Proof

/-- The 16-bit value AH:AL of 00_scope.md R9. -/
def word (hi lo : Byte) : Word := hi ++ lo

/-- Bits 7..0 of an address. -/
def loByte (w : Word) : Byte := w.extractLsb' 0 8

/-- Bits 15..8 of an address: its page (R15). -/
def hiByte (w : Word) : Byte := w.extractLsb' 8 8

/-- zext_16 (00_scope.md R10): an address in page 0. -/
def zext16 (b : Byte) : Word := b.setWidth 16

/-- sext_16 (00_scope.md R10). -/
def sext16 (b : Byte) : Word := b.signExtend 16

/-- Row 0 of the opcode map of R114: opcodes $00 to $0F. -/
def opcodeRow0 : List Entry := [
  ⟨.brk, .implied, 7, some .interrupt, true, .bare .brk⟩,
  ⟨.ora, .preIndexed, 6, some .read, true, .byte .oraIzX⟩,
  ⟨.invalid, .opcodeOnly, 1, none, false, .bare .invalid02⟩,
  ⟨.slo, .preIndexed, 8, some .rmw, false, .byte .sloIzX⟩,
  ⟨.nop, .zeroPage, 3, some .read, false, .byte .nopZp04⟩,
  ⟨.ora, .zeroPage, 3, some .read, true, .byte .oraZp⟩,
  ⟨.asl, .zeroPage, 5, some .rmw, true, .byte .aslZp⟩,
  ⟨.slo, .zeroPage, 5, some .rmw, false, .byte .sloZp⟩,
  ⟨.php, .implied, 3, some .write, true, .bare .php⟩,
  ⟨.ora, .immediate, 2, some .read, true, .byte .oraImm⟩,
  ⟨.asl, .implied, 2, some .rmw, true, .bare .aslAcc⟩,
  ⟨.anc, .immediate, 2, some .read, false, .byte .ancImm0B⟩,
  ⟨.nop, .absolute, 4, some .read, false, .word .nopAbs⟩,
  ⟨.ora, .absolute, 4, some .read, true, .word .oraAbs⟩,
  ⟨.asl, .absolute, 6, some .rmw, true, .word .aslAbs⟩,
  ⟨.slo, .absolute, 6, some .rmw, false, .word .sloAbs⟩]

/-- Row 1 of the opcode map of R114: opcodes $10 to $1F. -/
def opcodeRow1 : List Entry := [
  ⟨.bpl, .relative, 2, some .flow, true, .byte .bpl⟩,
  ⟨.ora, .postIndexed, 5, some .read, true, .byte .oraIzY⟩,
  ⟨.invalid, .opcodeOnly, 1, none, false, .bare .invalid12⟩,
  ⟨.slo, .postIndexed, 8, some .rmw, false, .byte .sloIzY⟩,
  ⟨.nop, .zeroPageX, 4, some .read, false, .byte .nopZpX14⟩,
  ⟨.ora, .zeroPageX, 4, some .read, true, .byte .oraZpX⟩,
  ⟨.asl, .zeroPageX, 6, some .rmw, true, .byte .aslZpX⟩,
  ⟨.slo, .zeroPageX, 6, some .rmw, false, .byte .sloZpX⟩,
  ⟨.clc, .implied, 2, some .read, true, .bare .clc⟩,
  ⟨.ora, .absoluteY, 4, some .read, true, .word .oraAbsY⟩,
  ⟨.nop, .implied, 2, some .read, false, .bare .nop1A⟩,
  ⟨.slo, .absoluteY, 7, some .rmw, false, .word .sloAbsY⟩,
  ⟨.nop, .absoluteX, 4, some .read, false, .word .nopAbsX1C⟩,
  ⟨.ora, .absoluteX, 4, some .read, true, .word .oraAbsX⟩,
  ⟨.asl, .absoluteX, 7, some .rmw, true, .word .aslAbsX⟩,
  ⟨.slo, .absoluteX, 7, some .rmw, false, .word .sloAbsX⟩]

/-- Row 2 of the opcode map of R114: opcodes $20 to $2F. -/
def opcodeRow2 : List Entry := [
  ⟨.jsr, .absolute, 6, some .subroutine, true, .call .jsr⟩,
  ⟨.and, .preIndexed, 6, some .read, true, .byte .andIzX⟩,
  ⟨.invalid, .opcodeOnly, 1, none, false, .bare .invalid22⟩,
  ⟨.invalid, .opcodeOnly, 1, none, false, .bare .invalid23⟩,
  ⟨.bit, .zeroPage, 3, some .read, true, .byte .bitZp⟩,
  ⟨.and, .zeroPage, 3, some .read, true, .byte .andZp⟩,
  ⟨.rol, .zeroPage, 5, some .rmw, true, .byte .rolZp⟩,
  ⟨.invalid, .opcodeOnly, 1, none, false, .bare .invalid27⟩,
  ⟨.plp, .implied, 4, some .read, true, .bare .plp⟩,
  ⟨.and, .immediate, 2, some .read, true, .byte .andImm⟩,
  ⟨.rol, .implied, 2, some .rmw, true, .bare .rolAcc⟩,
  ⟨.anc, .immediate, 2, some .read, false, .byte .ancImm2B⟩,
  ⟨.bit, .absolute, 4, some .read, true, .word .bitAbs⟩,
  ⟨.and, .absolute, 4, some .read, true, .word .andAbs⟩,
  ⟨.rol, .absolute, 6, some .rmw, true, .word .rolAbs⟩,
  ⟨.invalid, .opcodeOnly, 1, none, false, .bare .invalid2F⟩]

/-- Row 3 of the opcode map of R114: opcodes $30 to $3F. -/
def opcodeRow3 : List Entry := [
  ⟨.bmi, .relative, 2, some .flow, true, .byte .bmi⟩,
  ⟨.and, .postIndexed, 5, some .read, true, .byte .andIzY⟩,
  ⟨.invalid, .opcodeOnly, 1, none, false, .bare .invalid32⟩,
  ⟨.invalid, .opcodeOnly, 1, none, false, .bare .invalid33⟩,
  ⟨.nop, .zeroPageX, 4, some .read, false, .byte .nopZpX34⟩,
  ⟨.and, .zeroPageX, 4, some .read, true, .byte .andZpX⟩,
  ⟨.rol, .zeroPageX, 6, some .rmw, true, .byte .rolZpX⟩,
  ⟨.invalid, .opcodeOnly, 1, none, false, .bare .invalid37⟩,
  ⟨.sec, .implied, 2, some .read, true, .bare .sec⟩,
  ⟨.and, .absoluteY, 4, some .read, true, .word .andAbsY⟩,
  ⟨.nop, .implied, 2, some .read, false, .bare .nop3A⟩,
  ⟨.invalid, .opcodeOnly, 1, none, false, .bare .invalid3B⟩,
  ⟨.nop, .absoluteX, 4, some .read, false, .word .nopAbsX3C⟩,
  ⟨.and, .absoluteX, 4, some .read, true, .word .andAbsX⟩,
  ⟨.rol, .absoluteX, 7, some .rmw, true, .word .rolAbsX⟩,
  ⟨.invalid, .opcodeOnly, 1, none, false, .bare .invalid3F⟩]

/-- Row 4 of the opcode map of R114: opcodes $40 to $4F. -/
def opcodeRow4 : List Entry := [
  ⟨.rti, .implied, 6, some .interrupt, true, .bare .rti⟩,
  ⟨.eor, .preIndexed, 6, some .read, true, .byte .eorIzX⟩,
  ⟨.invalid, .opcodeOnly, 1, none, false, .bare .invalid42⟩,
  ⟨.invalid, .opcodeOnly, 1, none, false, .bare .invalid43⟩,
  ⟨.nop, .zeroPage, 3, some .read, false, .byte .nopZp44⟩,
  ⟨.eor, .zeroPage, 3, some .read, true, .byte .eorZp⟩,
  ⟨.lsr, .zeroPage, 5, some .rmw, true, .byte .lsrZp⟩,
  ⟨.invalid, .opcodeOnly, 1, none, false, .bare .invalid47⟩,
  ⟨.pha, .implied, 3, some .write, true, .bare .pha⟩,
  ⟨.eor, .immediate, 2, some .read, true, .byte .eorImm⟩,
  ⟨.lsr, .implied, 2, some .rmw, true, .bare .lsrAcc⟩,
  ⟨.alr, .immediate, 2, some .read, false, .byte .alrImm⟩,
  ⟨.jmp, .absolute, 3, some .flow, true, .jump .jmpAbs⟩,
  ⟨.eor, .absolute, 4, some .read, true, .word .eorAbs⟩,
  ⟨.lsr, .absolute, 6, some .rmw, true, .word .lsrAbs⟩,
  ⟨.invalid, .opcodeOnly, 1, none, false, .bare .invalid4F⟩]

/-- Row 5 of the opcode map of R114: opcodes $50 to $5F. -/
def opcodeRow5 : List Entry := [
  ⟨.bvc, .relative, 2, some .flow, true, .byte .bvc⟩,
  ⟨.eor, .postIndexed, 5, some .read, true, .byte .eorIzY⟩,
  ⟨.invalid, .opcodeOnly, 1, none, false, .bare .invalid52⟩,
  ⟨.invalid, .opcodeOnly, 1, none, false, .bare .invalid53⟩,
  ⟨.nop, .zeroPageX, 4, some .read, false, .byte .nopZpX54⟩,
  ⟨.eor, .zeroPageX, 4, some .read, true, .byte .eorZpX⟩,
  ⟨.lsr, .zeroPageX, 6, some .rmw, true, .byte .lsrZpX⟩,
  ⟨.invalid, .opcodeOnly, 1, none, false, .bare .invalid57⟩,
  ⟨.cli, .implied, 2, some .read, true, .bare .cli⟩,
  ⟨.eor, .absoluteY, 4, some .read, true, .word .eorAbsY⟩,
  ⟨.nop, .implied, 2, some .read, false, .bare .nop5A⟩,
  ⟨.invalid, .opcodeOnly, 1, none, false, .bare .invalid5B⟩,
  ⟨.nop, .absoluteX, 4, some .read, false, .word .nopAbsX5C⟩,
  ⟨.eor, .absoluteX, 4, some .read, true, .word .eorAbsX⟩,
  ⟨.lsr, .absoluteX, 7, some .rmw, true, .word .lsrAbsX⟩,
  ⟨.invalid, .opcodeOnly, 1, none, false, .bare .invalid5F⟩]

/-- Row 6 of the opcode map of R114: opcodes $60 to $6F. -/
def opcodeRow6 : List Entry := [
  ⟨.rts, .implied, 6, some .subroutine, true, .bare .rts⟩,
  ⟨.adc, .preIndexed, 6, some .read, true, .byte .adcIzX⟩,
  ⟨.invalid, .opcodeOnly, 1, none, false, .bare .invalid62⟩,
  ⟨.invalid, .opcodeOnly, 1, none, false, .bare .invalid63⟩,
  ⟨.nop, .zeroPage, 3, some .read, false, .byte .nopZp64⟩,
  ⟨.adc, .zeroPage, 3, some .read, true, .byte .adcZp⟩,
  ⟨.ror, .zeroPage, 5, some .rmw, true, .byte .rorZp⟩,
  ⟨.invalid, .opcodeOnly, 1, none, false, .bare .invalid67⟩,
  ⟨.pla, .implied, 4, some .read, true, .bare .pla⟩,
  ⟨.adc, .immediate, 2, some .read, true, .byte .adcImm⟩,
  ⟨.ror, .implied, 2, some .rmw, true, .bare .rorAcc⟩,
  ⟨.arr, .immediate, 2, some .read, false, .byte .arrImm⟩,
  ⟨.jmp, .indirect, 5, some .flow, true, .word .jmpInd⟩,
  ⟨.adc, .absolute, 4, some .read, true, .word .adcAbs⟩,
  ⟨.ror, .absolute, 6, some .rmw, true, .word .rorAbs⟩,
  ⟨.invalid, .opcodeOnly, 1, none, false, .bare .invalid6F⟩]

/-- Row 7 of the opcode map of R114: opcodes $70 to $7F. -/
def opcodeRow7 : List Entry := [
  ⟨.bvs, .relative, 2, some .flow, true, .byte .bvs⟩,
  ⟨.adc, .postIndexed, 5, some .read, true, .byte .adcIzY⟩,
  ⟨.invalid, .opcodeOnly, 1, none, false, .bare .invalid72⟩,
  ⟨.invalid, .opcodeOnly, 1, none, false, .bare .invalid73⟩,
  ⟨.nop, .zeroPageX, 4, some .read, false, .byte .nopZpX74⟩,
  ⟨.adc, .zeroPageX, 4, some .read, true, .byte .adcZpX⟩,
  ⟨.ror, .zeroPageX, 6, some .rmw, true, .byte .rorZpX⟩,
  ⟨.invalid, .opcodeOnly, 1, none, false, .bare .invalid77⟩,
  ⟨.sei, .implied, 2, some .read, true, .bare .sei⟩,
  ⟨.adc, .absoluteY, 4, some .read, true, .word .adcAbsY⟩,
  ⟨.nop, .implied, 2, some .read, false, .bare .nop7A⟩,
  ⟨.invalid, .opcodeOnly, 1, none, false, .bare .invalid7B⟩,
  ⟨.nop, .absoluteX, 4, some .read, false, .word .nopAbsX7C⟩,
  ⟨.adc, .absoluteX, 4, some .read, true, .word .adcAbsX⟩,
  ⟨.ror, .absoluteX, 7, some .rmw, true, .word .rorAbsX⟩,
  ⟨.invalid, .opcodeOnly, 1, none, false, .bare .invalid7F⟩]

/-- Row 8 of the opcode map of R114: opcodes $80 to $8F. -/
def opcodeRow8 : List Entry := [
  ⟨.nop, .immediate, 2, some .read, false, .byte .nopImm80⟩,
  ⟨.sta, .preIndexed, 6, some .write, true, .byte .staIzX⟩,
  ⟨.nop, .immediate, 2, some .read, false, .byte .nopImm82⟩,
  ⟨.sax, .preIndexed, 6, some .write, false, .byte .saxIzX⟩,
  ⟨.sty, .zeroPage, 3, some .write, true, .byte .styZp⟩,
  ⟨.sta, .zeroPage, 3, some .write, true, .byte .staZp⟩,
  ⟨.stx, .zeroPage, 3, some .write, true, .byte .stxZp⟩,
  ⟨.sax, .zeroPage, 3, some .write, false, .byte .saxZp⟩,
  ⟨.dey, .implied, 2, some .read, true, .bare .dey⟩,
  ⟨.nop, .immediate, 2, some .read, false, .byte .nopImm89⟩,
  ⟨.txa, .implied, 2, some .read, true, .bare .txa⟩,
  ⟨.xaa, .immediate, 2, some .read, false, .byte .xaaImm⟩,
  ⟨.sty, .absolute, 4, some .write, true, .word .styAbs⟩,
  ⟨.sta, .absolute, 4, some .write, true, .word .staAbs⟩,
  ⟨.stx, .absolute, 4, some .write, true, .word .stxAbs⟩,
  ⟨.sax, .absolute, 4, some .write, false, .word .saxAbs⟩]

/-- Row 9 of the opcode map of R114: opcodes $90 to $9F. -/
def opcodeRow9 : List Entry := [
  ⟨.bcc, .relative, 2, some .flow, true, .byte .bcc⟩,
  ⟨.sta, .postIndexed, 6, some .write, true, .byte .staIzY⟩,
  ⟨.invalid, .opcodeOnly, 1, none, false, .bare .invalid92⟩,
  ⟨.invalid, .opcodeOnly, 1, none, false, .bare .invalid93⟩,
  ⟨.sty, .zeroPageX, 4, some .write, true, .byte .styZpX⟩,
  ⟨.sta, .zeroPageX, 4, some .write, true, .byte .staZpX⟩,
  ⟨.stx, .zeroPageY, 4, some .write, true, .byte .stxZpY⟩,
  ⟨.sax, .zeroPageY, 4, some .write, false, .byte .saxZpY⟩,
  ⟨.tya, .implied, 2, some .read, true, .bare .tya⟩,
  ⟨.sta, .absoluteY, 5, some .write, true, .word .staAbsY⟩,
  ⟨.txs, .implied, 2, some .read, true, .bare .txs⟩,
  ⟨.invalid, .opcodeOnly, 1, none, false, .bare .invalid9B⟩,
  ⟨.invalid, .opcodeOnly, 1, none, false, .bare .invalid9C⟩,
  ⟨.sta, .absoluteX, 5, some .write, true, .word .staAbsX⟩,
  ⟨.invalid, .opcodeOnly, 1, none, false, .bare .invalid9E⟩,
  ⟨.invalid, .opcodeOnly, 1, none, false, .bare .invalid9F⟩]

/-- Row A of the opcode map of R114: opcodes $A0 to $AF. -/
def opcodeRowA : List Entry := [
  ⟨.ldy, .immediate, 2, some .read, true, .byte .ldyImm⟩,
  ⟨.lda, .preIndexed, 6, some .read, true, .byte .ldaIzX⟩,
  ⟨.ldx, .immediate, 2, some .read, true, .byte .ldxImm⟩,
  ⟨.lax, .preIndexed, 6, some .read, false, .byte .laxIzX⟩,
  ⟨.ldy, .zeroPage, 3, some .read, true, .byte .ldyZp⟩,
  ⟨.lda, .zeroPage, 3, some .read, true, .byte .ldaZp⟩,
  ⟨.ldx, .zeroPage, 3, some .read, true, .byte .ldxZp⟩,
  ⟨.lax, .zeroPage, 3, some .read, false, .byte .laxZp⟩,
  ⟨.tay, .implied, 2, some .read, true, .bare .tay⟩,
  ⟨.lda, .immediate, 2, some .read, true, .byte .ldaImm⟩,
  ⟨.tax, .implied, 2, some .read, true, .bare .tax⟩,
  ⟨.invalid, .opcodeOnly, 1, none, false, .bare .invalidAB⟩,
  ⟨.ldy, .absolute, 4, some .read, true, .word .ldyAbs⟩,
  ⟨.lda, .absolute, 4, some .read, true, .word .ldaAbs⟩,
  ⟨.ldx, .absolute, 4, some .read, true, .word .ldxAbs⟩,
  ⟨.lax, .absolute, 4, some .read, false, .word .laxAbs⟩]

/-- Row B of the opcode map of R114: opcodes $B0 to $BF. -/
def opcodeRowB : List Entry := [
  ⟨.bcs, .relative, 2, some .flow, true, .byte .bcs⟩,
  ⟨.lda, .postIndexed, 5, some .read, true, .byte .ldaIzY⟩,
  ⟨.invalid, .opcodeOnly, 1, none, false, .bare .invalidB2⟩,
  ⟨.lax, .postIndexed, 5, some .read, false, .byte .laxIzY⟩,
  ⟨.ldy, .zeroPageX, 4, some .read, true, .byte .ldyZpX⟩,
  ⟨.lda, .zeroPageX, 4, some .read, true, .byte .ldaZpX⟩,
  ⟨.ldx, .zeroPageY, 4, some .read, true, .byte .ldxZpY⟩,
  ⟨.lax, .zeroPageY, 4, some .read, false, .byte .laxZpY⟩,
  ⟨.clv, .implied, 2, some .read, true, .bare .clv⟩,
  ⟨.lda, .absoluteY, 4, some .read, true, .word .ldaAbsY⟩,
  ⟨.tsx, .implied, 2, some .read, true, .bare .tsx⟩,
  ⟨.invalid, .opcodeOnly, 1, none, false, .bare .invalidBB⟩,
  ⟨.ldy, .absoluteX, 4, some .read, true, .word .ldyAbsX⟩,
  ⟨.lda, .absoluteX, 4, some .read, true, .word .ldaAbsX⟩,
  ⟨.ldx, .absoluteY, 4, some .read, true, .word .ldxAbsY⟩,
  ⟨.lax, .absoluteY, 4, some .read, false, .word .laxAbsY⟩]

/-- Row C of the opcode map of R114: opcodes $C0 to $CF. -/
def opcodeRowC : List Entry := [
  ⟨.cpy, .immediate, 2, some .read, true, .byte .cpyImm⟩,
  ⟨.cmp, .preIndexed, 6, some .read, true, .byte .cmpIzX⟩,
  ⟨.nop, .immediate, 2, some .read, false, .byte .nopImmC2⟩,
  ⟨.dcp, .preIndexed, 8, some .rmw, false, .byte .dcpIzX⟩,
  ⟨.cpy, .zeroPage, 3, some .read, true, .byte .cpyZp⟩,
  ⟨.cmp, .zeroPage, 3, some .read, true, .byte .cmpZp⟩,
  ⟨.dec, .zeroPage, 5, some .rmw, true, .byte .decZp⟩,
  ⟨.dcp, .zeroPage, 5, some .rmw, false, .byte .dcpZp⟩,
  ⟨.iny, .implied, 2, some .read, true, .bare .iny⟩,
  ⟨.cmp, .immediate, 2, some .read, true, .byte .cmpImm⟩,
  ⟨.dex, .implied, 2, some .read, true, .bare .dex⟩,
  ⟨.axs, .immediate, 2, some .read, false, .byte .axsImm⟩,
  ⟨.cpy, .absolute, 4, some .read, true, .word .cpyAbs⟩,
  ⟨.cmp, .absolute, 4, some .read, true, .word .cmpAbs⟩,
  ⟨.dec, .absolute, 6, some .rmw, true, .word .decAbs⟩,
  ⟨.dcp, .absolute, 6, some .rmw, false, .word .dcpAbs⟩]

/-- Row D of the opcode map of R114: opcodes $D0 to $DF. -/
def opcodeRowD : List Entry := [
  ⟨.bne, .relative, 2, some .flow, true, .byte .bne⟩,
  ⟨.cmp, .postIndexed, 5, some .read, true, .byte .cmpIzY⟩,
  ⟨.invalid, .opcodeOnly, 1, none, false, .bare .invalidD2⟩,
  ⟨.dcp, .postIndexed, 8, some .rmw, false, .byte .dcpIzY⟩,
  ⟨.nop, .zeroPageX, 4, some .read, false, .byte .nopZpXD4⟩,
  ⟨.cmp, .zeroPageX, 4, some .read, true, .byte .cmpZpX⟩,
  ⟨.dec, .zeroPageX, 6, some .rmw, true, .byte .decZpX⟩,
  ⟨.dcp, .zeroPageX, 6, some .rmw, false, .byte .dcpZpX⟩,
  ⟨.cld, .implied, 2, some .read, true, .bare .cld⟩,
  ⟨.cmp, .absoluteY, 4, some .read, true, .word .cmpAbsY⟩,
  ⟨.nop, .implied, 2, some .read, false, .bare .nopDA⟩,
  ⟨.dcp, .absoluteY, 7, some .rmw, false, .word .dcpAbsY⟩,
  ⟨.nop, .absoluteX, 4, some .read, false, .word .nopAbsXDC⟩,
  ⟨.cmp, .absoluteX, 4, some .read, true, .word .cmpAbsX⟩,
  ⟨.dec, .absoluteX, 7, some .rmw, true, .word .decAbsX⟩,
  ⟨.dcp, .absoluteX, 7, some .rmw, false, .word .dcpAbsX⟩]

/-- Row E of the opcode map of R114: opcodes $E0 to $EF. -/
def opcodeRowE : List Entry := [
  ⟨.cpx, .immediate, 2, some .read, true, .byte .cpxImm⟩,
  ⟨.sbc, .preIndexed, 6, some .read, true, .byte .sbcIzX⟩,
  ⟨.nop, .immediate, 2, some .read, false, .byte .nopImmE2⟩,
  ⟨.isc, .preIndexed, 8, some .rmw, false, .byte .iscIzX⟩,
  ⟨.cpx, .zeroPage, 3, some .read, true, .byte .cpxZp⟩,
  ⟨.sbc, .zeroPage, 3, some .read, true, .byte .sbcZp⟩,
  ⟨.inc, .zeroPage, 5, some .rmw, true, .byte .incZp⟩,
  ⟨.isc, .zeroPage, 5, some .rmw, false, .byte .iscZp⟩,
  ⟨.inx, .implied, 2, some .read, true, .bare .inx⟩,
  ⟨.sbc, .immediate, 2, some .read, true, .byte .sbcImm⟩,
  ⟨.nop, .implied, 2, some .read, true, .bare .nop⟩,
  ⟨.invalid, .opcodeOnly, 1, none, false, .bare .invalidEB⟩,
  ⟨.cpx, .absolute, 4, some .read, true, .word .cpxAbs⟩,
  ⟨.sbc, .absolute, 4, some .read, true, .word .sbcAbs⟩,
  ⟨.inc, .absolute, 6, some .rmw, true, .word .incAbs⟩,
  ⟨.isc, .absolute, 6, some .rmw, false, .word .iscAbs⟩]

/-- Row F of the opcode map of R114: opcodes $F0 to $FF. -/
def opcodeRowF : List Entry := [
  ⟨.beq, .relative, 2, some .flow, true, .byte .beq⟩,
  ⟨.sbc, .postIndexed, 5, some .read, true, .byte .sbcIzY⟩,
  ⟨.invalid, .opcodeOnly, 1, none, false, .bare .invalidF2⟩,
  ⟨.isc, .postIndexed, 8, some .rmw, false, .byte .iscIzY⟩,
  ⟨.nop, .zeroPageX, 4, some .read, false, .byte .nopZpXF4⟩,
  ⟨.sbc, .zeroPageX, 4, some .read, true, .byte .sbcZpX⟩,
  ⟨.inc, .zeroPageX, 6, some .rmw, true, .byte .incZpX⟩,
  ⟨.isc, .zeroPageX, 6, some .rmw, false, .byte .iscZpX⟩,
  ⟨.sed, .implied, 2, some .read, true, .bare .sed⟩,
  ⟨.sbc, .absoluteY, 4, some .read, true, .word .sbcAbsY⟩,
  ⟨.nop, .implied, 2, some .read, false, .bare .nopFA⟩,
  ⟨.isc, .absoluteY, 7, some .rmw, false, .word .iscAbsY⟩,
  ⟨.nop, .absoluteX, 4, some .read, false, .word .nopAbsXFC⟩,
  ⟨.sbc, .absoluteX, 4, some .read, true, .word .sbcAbsX⟩,
  ⟨.inc, .absoluteX, 7, some .rmw, true, .word .incAbsX⟩,
  ⟨.isc, .absoluteX, 7, some .rmw, false, .word .iscAbsX⟩]

/-- The whole opcode map, by high nibble. -/
def opcodeMap : List (List Entry) :=
  [opcodeRow0, opcodeRow1, opcodeRow2, opcodeRow3, opcodeRow4, opcodeRow5, opcodeRow6, opcodeRow7] ++
  [opcodeRow8, opcodeRow9, opcodeRowA, opcodeRowB, opcodeRowC, opcodeRowD, opcodeRowE, opcodeRowF]

/-- The cell of an opcode: the whole byte selects it (R112). The map has all 256 cells, so the default given
to getD is never used (Laws/Decode.lean opcodeMap_full). -/
def entryOf (op : Byte) : Entry :=
  (opcodeMap.getD (op.toNat / 16) []).getD (op.toNat % 16)
    ⟨.invalid, .opcodeOnly, 1, none, false, .bare .invalid02⟩

/-- Page sensitivity (R117): READ in an indexed absolute or post-index indirect mode. -/
def pageSensitive (mode : Mode) (effect : Option Effect) : Bool :=
  effect == some .read && (mode == .absoluteX || mode == .absoluteY || mode == .postIndexed)

/-- The row of an opcode, as the executor's table gives it (R113). -/
def rowOf (op : Byte) : Row :=
  let e := entryOf op
  ⟨op, e.mnemonic, e.mode, e.cycles, pageSensitive e.mode e.effect, e.effect, e.documented⟩

/-- Decode the instruction at the head of a list of bytes, and the bytes after it (R110, R111, R113). -/
def decode : List Byte → Except DecodeError (Instr × List Byte)
  | [] => .error .noBytes
  | op :: rest =>
    match (entryOf op).shape, rest with
    | .bare i, rest => .ok (i, rest)
    | .byte f, b1 :: rest => .ok (f b1, rest)
    | .word f, b1 :: b2 :: rest => .ok (f (word b2 b1), rest)
    | .jump f, b1 :: b2 :: rest => .ok (f (word b2 b1), rest)
    | .call f, b1 :: b2 :: rest => .ok (f (word b2 b1), rest)
    | _, _ => .error (.missingOperand op)

/-- The instruction in the bits of one table word: bit 0 is the least significant bit of the opcode byte, and
the bits above nbits are zero (three bytes are the longest instruction, R110). -/
def decodeTableWord (nbits w : Nat) : Option Instr :=
  let v := w % 2 ^ nbits
  match decode [BitVec.ofNat 8 v, BitVec.ofNat 8 (v / 256), BitVec.ofNat 8 (v / 65536)] with
  | .ok (i, _) => some i
  | .error _ => none

/-- The opcode byte of each instruction (R114, opcode_table.json). -/
def Instr.opcode : Instr → Byte
  | .brk => 0x00
  | .oraIzX _ => 0x01
  | .invalid02 => 0x02
  | .sloIzX _ => 0x03
  | .nopZp04 _ => 0x04
  | .oraZp _ => 0x05
  | .aslZp _ => 0x06
  | .sloZp _ => 0x07
  | .php => 0x08
  | .oraImm _ => 0x09
  | .aslAcc => 0x0A
  | .ancImm0B _ => 0x0B
  | .nopAbs _ => 0x0C
  | .oraAbs _ => 0x0D
  | .aslAbs _ => 0x0E
  | .sloAbs _ => 0x0F
  | .bpl _ => 0x10
  | .oraIzY _ => 0x11
  | .invalid12 => 0x12
  | .sloIzY _ => 0x13
  | .nopZpX14 _ => 0x14
  | .oraZpX _ => 0x15
  | .aslZpX _ => 0x16
  | .sloZpX _ => 0x17
  | .clc => 0x18
  | .oraAbsY _ => 0x19
  | .nop1A => 0x1A
  | .sloAbsY _ => 0x1B
  | .nopAbsX1C _ => 0x1C
  | .oraAbsX _ => 0x1D
  | .aslAbsX _ => 0x1E
  | .sloAbsX _ => 0x1F
  | .jsr _ => 0x20
  | .andIzX _ => 0x21
  | .invalid22 => 0x22
  | .invalid23 => 0x23
  | .bitZp _ => 0x24
  | .andZp _ => 0x25
  | .rolZp _ => 0x26
  | .invalid27 => 0x27
  | .plp => 0x28
  | .andImm _ => 0x29
  | .rolAcc => 0x2A
  | .ancImm2B _ => 0x2B
  | .bitAbs _ => 0x2C
  | .andAbs _ => 0x2D
  | .rolAbs _ => 0x2E
  | .invalid2F => 0x2F
  | .bmi _ => 0x30
  | .andIzY _ => 0x31
  | .invalid32 => 0x32
  | .invalid33 => 0x33
  | .nopZpX34 _ => 0x34
  | .andZpX _ => 0x35
  | .rolZpX _ => 0x36
  | .invalid37 => 0x37
  | .sec => 0x38
  | .andAbsY _ => 0x39
  | .nop3A => 0x3A
  | .invalid3B => 0x3B
  | .nopAbsX3C _ => 0x3C
  | .andAbsX _ => 0x3D
  | .rolAbsX _ => 0x3E
  | .invalid3F => 0x3F
  | .rti => 0x40
  | .eorIzX _ => 0x41
  | .invalid42 => 0x42
  | .invalid43 => 0x43
  | .nopZp44 _ => 0x44
  | .eorZp _ => 0x45
  | .lsrZp _ => 0x46
  | .invalid47 => 0x47
  | .pha => 0x48
  | .eorImm _ => 0x49
  | .lsrAcc => 0x4A
  | .alrImm _ => 0x4B
  | .jmpAbs _ => 0x4C
  | .eorAbs _ => 0x4D
  | .lsrAbs _ => 0x4E
  | .invalid4F => 0x4F
  | .bvc _ => 0x50
  | .eorIzY _ => 0x51
  | .invalid52 => 0x52
  | .invalid53 => 0x53
  | .nopZpX54 _ => 0x54
  | .eorZpX _ => 0x55
  | .lsrZpX _ => 0x56
  | .invalid57 => 0x57
  | .cli => 0x58
  | .eorAbsY _ => 0x59
  | .nop5A => 0x5A
  | .invalid5B => 0x5B
  | .nopAbsX5C _ => 0x5C
  | .eorAbsX _ => 0x5D
  | .lsrAbsX _ => 0x5E
  | .invalid5F => 0x5F
  | .rts => 0x60
  | .adcIzX _ => 0x61
  | .invalid62 => 0x62
  | .invalid63 => 0x63
  | .nopZp64 _ => 0x64
  | .adcZp _ => 0x65
  | .rorZp _ => 0x66
  | .invalid67 => 0x67
  | .pla => 0x68
  | .adcImm _ => 0x69
  | .rorAcc => 0x6A
  | .arrImm _ => 0x6B
  | .jmpInd _ => 0x6C
  | .adcAbs _ => 0x6D
  | .rorAbs _ => 0x6E
  | .invalid6F => 0x6F
  | .bvs _ => 0x70
  | .adcIzY _ => 0x71
  | .invalid72 => 0x72
  | .invalid73 => 0x73
  | .nopZpX74 _ => 0x74
  | .adcZpX _ => 0x75
  | .rorZpX _ => 0x76
  | .invalid77 => 0x77
  | .sei => 0x78
  | .adcAbsY _ => 0x79
  | .nop7A => 0x7A
  | .invalid7B => 0x7B
  | .nopAbsX7C _ => 0x7C
  | .adcAbsX _ => 0x7D
  | .rorAbsX _ => 0x7E
  | .invalid7F => 0x7F
  | .nopImm80 _ => 0x80
  | .staIzX _ => 0x81
  | .nopImm82 _ => 0x82
  | .saxIzX _ => 0x83
  | .styZp _ => 0x84
  | .staZp _ => 0x85
  | .stxZp _ => 0x86
  | .saxZp _ => 0x87
  | .dey => 0x88
  | .nopImm89 _ => 0x89
  | .txa => 0x8A
  | .xaaImm _ => 0x8B
  | .styAbs _ => 0x8C
  | .staAbs _ => 0x8D
  | .stxAbs _ => 0x8E
  | .saxAbs _ => 0x8F
  | .bcc _ => 0x90
  | .staIzY _ => 0x91
  | .invalid92 => 0x92
  | .invalid93 => 0x93
  | .styZpX _ => 0x94
  | .staZpX _ => 0x95
  | .stxZpY _ => 0x96
  | .saxZpY _ => 0x97
  | .tya => 0x98
  | .staAbsY _ => 0x99
  | .txs => 0x9A
  | .invalid9B => 0x9B
  | .invalid9C => 0x9C
  | .staAbsX _ => 0x9D
  | .invalid9E => 0x9E
  | .invalid9F => 0x9F
  | .ldyImm _ => 0xA0
  | .ldaIzX _ => 0xA1
  | .ldxImm _ => 0xA2
  | .laxIzX _ => 0xA3
  | .ldyZp _ => 0xA4
  | .ldaZp _ => 0xA5
  | .ldxZp _ => 0xA6
  | .laxZp _ => 0xA7
  | .tay => 0xA8
  | .ldaImm _ => 0xA9
  | .tax => 0xAA
  | .invalidAB => 0xAB
  | .ldyAbs _ => 0xAC
  | .ldaAbs _ => 0xAD
  | .ldxAbs _ => 0xAE
  | .laxAbs _ => 0xAF
  | .bcs _ => 0xB0
  | .ldaIzY _ => 0xB1
  | .invalidB2 => 0xB2
  | .laxIzY _ => 0xB3
  | .ldyZpX _ => 0xB4
  | .ldaZpX _ => 0xB5
  | .ldxZpY _ => 0xB6
  | .laxZpY _ => 0xB7
  | .clv => 0xB8
  | .ldaAbsY _ => 0xB9
  | .tsx => 0xBA
  | .invalidBB => 0xBB
  | .ldyAbsX _ => 0xBC
  | .ldaAbsX _ => 0xBD
  | .ldxAbsY _ => 0xBE
  | .laxAbsY _ => 0xBF
  | .cpyImm _ => 0xC0
  | .cmpIzX _ => 0xC1
  | .nopImmC2 _ => 0xC2
  | .dcpIzX _ => 0xC3
  | .cpyZp _ => 0xC4
  | .cmpZp _ => 0xC5
  | .decZp _ => 0xC6
  | .dcpZp _ => 0xC7
  | .iny => 0xC8
  | .cmpImm _ => 0xC9
  | .dex => 0xCA
  | .axsImm _ => 0xCB
  | .cpyAbs _ => 0xCC
  | .cmpAbs _ => 0xCD
  | .decAbs _ => 0xCE
  | .dcpAbs _ => 0xCF
  | .bne _ => 0xD0
  | .cmpIzY _ => 0xD1
  | .invalidD2 => 0xD2
  | .dcpIzY _ => 0xD3
  | .nopZpXD4 _ => 0xD4
  | .cmpZpX _ => 0xD5
  | .decZpX _ => 0xD6
  | .dcpZpX _ => 0xD7
  | .cld => 0xD8
  | .cmpAbsY _ => 0xD9
  | .nopDA => 0xDA
  | .dcpAbsY _ => 0xDB
  | .nopAbsXDC _ => 0xDC
  | .cmpAbsX _ => 0xDD
  | .decAbsX _ => 0xDE
  | .dcpAbsX _ => 0xDF
  | .cpxImm _ => 0xE0
  | .sbcIzX _ => 0xE1
  | .nopImmE2 _ => 0xE2
  | .iscIzX _ => 0xE3
  | .cpxZp _ => 0xE4
  | .sbcZp _ => 0xE5
  | .incZp _ => 0xE6
  | .iscZp _ => 0xE7
  | .inx => 0xE8
  | .sbcImm _ => 0xE9
  | .nop => 0xEA
  | .invalidEB => 0xEB
  | .cpxAbs _ => 0xEC
  | .sbcAbs _ => 0xED
  | .incAbs _ => 0xEE
  | .iscAbs _ => 0xEF
  | .beq _ => 0xF0
  | .sbcIzY _ => 0xF1
  | .invalidF2 => 0xF2
  | .iscIzY _ => 0xF3
  | .nopZpXF4 _ => 0xF4
  | .sbcZpX _ => 0xF5
  | .incZpX _ => 0xF6
  | .iscZpX _ => 0xF7
  | .sed => 0xF8
  | .sbcAbsY _ => 0xF9
  | .nopFA => 0xFA
  | .iscAbsY _ => 0xFB
  | .nopAbsXFC _ => 0xFC
  | .sbcAbsX _ => 0xFD
  | .incAbsX _ => 0xFE
  | .iscAbsX _ => 0xFF

/-- The operand of each instruction, by the mode of its row (R111) and its effect category (R116). -/
def Instr.operand : Instr → Operand
  | .brk => .implied
  | .oraIzX b1 => .source (.memory (.preIndexed b1))
  | .invalid02 => .implied
  | .sloIzX b1 => .memory (.preIndexed b1)
  | .nopZp04 b1 => .source (.memory (.zeroPage b1))
  | .oraZp b1 => .source (.memory (.zeroPage b1))
  | .aslZp b1 => .memory (.zeroPage b1)
  | .sloZp b1 => .memory (.zeroPage b1)
  | .php => .implied
  | .oraImm imm => .source (.immediate imm)
  | .aslAcc => .accumulator
  | .ancImm0B imm => .source (.immediate imm)
  | .nopAbs addr => .source (.memory (.absolute addr))
  | .oraAbs addr => .source (.memory (.absolute addr))
  | .aslAbs addr => .memory (.absolute addr)
  | .sloAbs addr => .memory (.absolute addr)
  | .bpl off => .relative off
  | .oraIzY b1 => .source (.memory (.postIndexed b1))
  | .invalid12 => .implied
  | .sloIzY b1 => .memory (.postIndexed b1)
  | .nopZpX14 b1 => .source (.memory (.zeroPageX b1))
  | .oraZpX b1 => .source (.memory (.zeroPageX b1))
  | .aslZpX b1 => .memory (.zeroPageX b1)
  | .sloZpX b1 => .memory (.zeroPageX b1)
  | .clc => .implied
  | .oraAbsY addr => .source (.memory (.absoluteY addr))
  | .nop1A => .implied
  | .sloAbsY addr => .memory (.absoluteY addr)
  | .nopAbsX1C addr => .source (.memory (.absoluteX addr))
  | .oraAbsX addr => .source (.memory (.absoluteX addr))
  | .aslAbsX addr => .memory (.absoluteX addr)
  | .sloAbsX addr => .memory (.absoluteX addr)
  | .jsr target => .target target
  | .andIzX b1 => .source (.memory (.preIndexed b1))
  | .invalid22 => .implied
  | .invalid23 => .implied
  | .bitZp b1 => .source (.memory (.zeroPage b1))
  | .andZp b1 => .source (.memory (.zeroPage b1))
  | .rolZp b1 => .memory (.zeroPage b1)
  | .invalid27 => .implied
  | .plp => .implied
  | .andImm imm => .source (.immediate imm)
  | .rolAcc => .accumulator
  | .ancImm2B imm => .source (.immediate imm)
  | .bitAbs addr => .source (.memory (.absolute addr))
  | .andAbs addr => .source (.memory (.absolute addr))
  | .rolAbs addr => .memory (.absolute addr)
  | .invalid2F => .implied
  | .bmi off => .relative off
  | .andIzY b1 => .source (.memory (.postIndexed b1))
  | .invalid32 => .implied
  | .invalid33 => .implied
  | .nopZpX34 b1 => .source (.memory (.zeroPageX b1))
  | .andZpX b1 => .source (.memory (.zeroPageX b1))
  | .rolZpX b1 => .memory (.zeroPageX b1)
  | .invalid37 => .implied
  | .sec => .implied
  | .andAbsY addr => .source (.memory (.absoluteY addr))
  | .nop3A => .implied
  | .invalid3B => .implied
  | .nopAbsX3C addr => .source (.memory (.absoluteX addr))
  | .andAbsX addr => .source (.memory (.absoluteX addr))
  | .rolAbsX addr => .memory (.absoluteX addr)
  | .invalid3F => .implied
  | .rti => .implied
  | .eorIzX b1 => .source (.memory (.preIndexed b1))
  | .invalid42 => .implied
  | .invalid43 => .implied
  | .nopZp44 b1 => .source (.memory (.zeroPage b1))
  | .eorZp b1 => .source (.memory (.zeroPage b1))
  | .lsrZp b1 => .memory (.zeroPage b1)
  | .invalid47 => .implied
  | .pha => .implied
  | .eorImm imm => .source (.immediate imm)
  | .lsrAcc => .accumulator
  | .alrImm imm => .source (.immediate imm)
  | .jmpAbs target => .target target
  | .eorAbs addr => .source (.memory (.absolute addr))
  | .lsrAbs addr => .memory (.absolute addr)
  | .invalid4F => .implied
  | .bvc off => .relative off
  | .eorIzY b1 => .source (.memory (.postIndexed b1))
  | .invalid52 => .implied
  | .invalid53 => .implied
  | .nopZpX54 b1 => .source (.memory (.zeroPageX b1))
  | .eorZpX b1 => .source (.memory (.zeroPageX b1))
  | .lsrZpX b1 => .memory (.zeroPageX b1)
  | .invalid57 => .implied
  | .cli => .implied
  | .eorAbsY addr => .source (.memory (.absoluteY addr))
  | .nop5A => .implied
  | .invalid5B => .implied
  | .nopAbsX5C addr => .source (.memory (.absoluteX addr))
  | .eorAbsX addr => .source (.memory (.absoluteX addr))
  | .lsrAbsX addr => .memory (.absoluteX addr)
  | .invalid5F => .implied
  | .rts => .implied
  | .adcIzX b1 => .source (.memory (.preIndexed b1))
  | .invalid62 => .implied
  | .invalid63 => .implied
  | .nopZp64 b1 => .source (.memory (.zeroPage b1))
  | .adcZp b1 => .source (.memory (.zeroPage b1))
  | .rorZp b1 => .memory (.zeroPage b1)
  | .invalid67 => .implied
  | .pla => .implied
  | .adcImm imm => .source (.immediate imm)
  | .rorAcc => .accumulator
  | .arrImm imm => .source (.immediate imm)
  | .jmpInd ptr => .pointer ptr
  | .adcAbs addr => .source (.memory (.absolute addr))
  | .rorAbs addr => .memory (.absolute addr)
  | .invalid6F => .implied
  | .bvs off => .relative off
  | .adcIzY b1 => .source (.memory (.postIndexed b1))
  | .invalid72 => .implied
  | .invalid73 => .implied
  | .nopZpX74 b1 => .source (.memory (.zeroPageX b1))
  | .adcZpX b1 => .source (.memory (.zeroPageX b1))
  | .rorZpX b1 => .memory (.zeroPageX b1)
  | .invalid77 => .implied
  | .sei => .implied
  | .adcAbsY addr => .source (.memory (.absoluteY addr))
  | .nop7A => .implied
  | .invalid7B => .implied
  | .nopAbsX7C addr => .source (.memory (.absoluteX addr))
  | .adcAbsX addr => .source (.memory (.absoluteX addr))
  | .rorAbsX addr => .memory (.absoluteX addr)
  | .invalid7F => .implied
  | .nopImm80 imm => .source (.immediate imm)
  | .staIzX b1 => .memory (.preIndexed b1)
  | .nopImm82 imm => .source (.immediate imm)
  | .saxIzX b1 => .memory (.preIndexed b1)
  | .styZp b1 => .memory (.zeroPage b1)
  | .staZp b1 => .memory (.zeroPage b1)
  | .stxZp b1 => .memory (.zeroPage b1)
  | .saxZp b1 => .memory (.zeroPage b1)
  | .dey => .implied
  | .nopImm89 imm => .source (.immediate imm)
  | .txa => .implied
  | .xaaImm imm => .source (.immediate imm)
  | .styAbs addr => .memory (.absolute addr)
  | .staAbs addr => .memory (.absolute addr)
  | .stxAbs addr => .memory (.absolute addr)
  | .saxAbs addr => .memory (.absolute addr)
  | .bcc off => .relative off
  | .staIzY b1 => .memory (.postIndexed b1)
  | .invalid92 => .implied
  | .invalid93 => .implied
  | .styZpX b1 => .memory (.zeroPageX b1)
  | .staZpX b1 => .memory (.zeroPageX b1)
  | .stxZpY b1 => .memory (.zeroPageY b1)
  | .saxZpY b1 => .memory (.zeroPageY b1)
  | .tya => .implied
  | .staAbsY addr => .memory (.absoluteY addr)
  | .txs => .implied
  | .invalid9B => .implied
  | .invalid9C => .implied
  | .staAbsX addr => .memory (.absoluteX addr)
  | .invalid9E => .implied
  | .invalid9F => .implied
  | .ldyImm imm => .source (.immediate imm)
  | .ldaIzX b1 => .source (.memory (.preIndexed b1))
  | .ldxImm imm => .source (.immediate imm)
  | .laxIzX b1 => .source (.memory (.preIndexed b1))
  | .ldyZp b1 => .source (.memory (.zeroPage b1))
  | .ldaZp b1 => .source (.memory (.zeroPage b1))
  | .ldxZp b1 => .source (.memory (.zeroPage b1))
  | .laxZp b1 => .source (.memory (.zeroPage b1))
  | .tay => .implied
  | .ldaImm imm => .source (.immediate imm)
  | .tax => .implied
  | .invalidAB => .implied
  | .ldyAbs addr => .source (.memory (.absolute addr))
  | .ldaAbs addr => .source (.memory (.absolute addr))
  | .ldxAbs addr => .source (.memory (.absolute addr))
  | .laxAbs addr => .source (.memory (.absolute addr))
  | .bcs off => .relative off
  | .ldaIzY b1 => .source (.memory (.postIndexed b1))
  | .invalidB2 => .implied
  | .laxIzY b1 => .source (.memory (.postIndexed b1))
  | .ldyZpX b1 => .source (.memory (.zeroPageX b1))
  | .ldaZpX b1 => .source (.memory (.zeroPageX b1))
  | .ldxZpY b1 => .source (.memory (.zeroPageY b1))
  | .laxZpY b1 => .source (.memory (.zeroPageY b1))
  | .clv => .implied
  | .ldaAbsY addr => .source (.memory (.absoluteY addr))
  | .tsx => .implied
  | .invalidBB => .implied
  | .ldyAbsX addr => .source (.memory (.absoluteX addr))
  | .ldaAbsX addr => .source (.memory (.absoluteX addr))
  | .ldxAbsY addr => .source (.memory (.absoluteY addr))
  | .laxAbsY addr => .source (.memory (.absoluteY addr))
  | .cpyImm imm => .source (.immediate imm)
  | .cmpIzX b1 => .source (.memory (.preIndexed b1))
  | .nopImmC2 imm => .source (.immediate imm)
  | .dcpIzX b1 => .memory (.preIndexed b1)
  | .cpyZp b1 => .source (.memory (.zeroPage b1))
  | .cmpZp b1 => .source (.memory (.zeroPage b1))
  | .decZp b1 => .memory (.zeroPage b1)
  | .dcpZp b1 => .memory (.zeroPage b1)
  | .iny => .implied
  | .cmpImm imm => .source (.immediate imm)
  | .dex => .implied
  | .axsImm imm => .source (.immediate imm)
  | .cpyAbs addr => .source (.memory (.absolute addr))
  | .cmpAbs addr => .source (.memory (.absolute addr))
  | .decAbs addr => .memory (.absolute addr)
  | .dcpAbs addr => .memory (.absolute addr)
  | .bne off => .relative off
  | .cmpIzY b1 => .source (.memory (.postIndexed b1))
  | .invalidD2 => .implied
  | .dcpIzY b1 => .memory (.postIndexed b1)
  | .nopZpXD4 b1 => .source (.memory (.zeroPageX b1))
  | .cmpZpX b1 => .source (.memory (.zeroPageX b1))
  | .decZpX b1 => .memory (.zeroPageX b1)
  | .dcpZpX b1 => .memory (.zeroPageX b1)
  | .cld => .implied
  | .cmpAbsY addr => .source (.memory (.absoluteY addr))
  | .nopDA => .implied
  | .dcpAbsY addr => .memory (.absoluteY addr)
  | .nopAbsXDC addr => .source (.memory (.absoluteX addr))
  | .cmpAbsX addr => .source (.memory (.absoluteX addr))
  | .decAbsX addr => .memory (.absoluteX addr)
  | .dcpAbsX addr => .memory (.absoluteX addr)
  | .cpxImm imm => .source (.immediate imm)
  | .sbcIzX b1 => .source (.memory (.preIndexed b1))
  | .nopImmE2 imm => .source (.immediate imm)
  | .iscIzX b1 => .memory (.preIndexed b1)
  | .cpxZp b1 => .source (.memory (.zeroPage b1))
  | .sbcZp b1 => .source (.memory (.zeroPage b1))
  | .incZp b1 => .memory (.zeroPage b1)
  | .iscZp b1 => .memory (.zeroPage b1)
  | .inx => .implied
  | .sbcImm imm => .source (.immediate imm)
  | .nop => .implied
  | .invalidEB => .implied
  | .cpxAbs addr => .source (.memory (.absolute addr))
  | .sbcAbs addr => .source (.memory (.absolute addr))
  | .incAbs addr => .memory (.absolute addr)
  | .iscAbs addr => .memory (.absolute addr)
  | .beq off => .relative off
  | .sbcIzY b1 => .source (.memory (.postIndexed b1))
  | .invalidF2 => .implied
  | .iscIzY b1 => .memory (.postIndexed b1)
  | .nopZpXF4 b1 => .source (.memory (.zeroPageX b1))
  | .sbcZpX b1 => .source (.memory (.zeroPageX b1))
  | .incZpX b1 => .memory (.zeroPageX b1)
  | .iscZpX b1 => .memory (.zeroPageX b1)
  | .sed => .implied
  | .sbcAbsY addr => .source (.memory (.absoluteY addr))
  | .nopFA => .implied
  | .iscAbsY addr => .memory (.absoluteY addr)
  | .nopAbsXFC addr => .source (.memory (.absoluteX addr))
  | .sbcAbsX addr => .source (.memory (.absoluteX addr))
  | .incAbsX addr => .memory (.absoluteX addr)
  | .iscAbsX addr => .memory (.absoluteX addr)

/-- The bytes of a memory operand, low byte first (R111, 20_memory.md R92). -/
def MemMode.bytes : MemMode → List Byte
  | .zeroPage b1 | .zeroPageX b1 | .zeroPageY b1 | .preIndexed b1 | .postIndexed b1 => [b1]
  | .absolute a | .absoluteX a | .absoluteY a => [loByte a, hiByte a]

/-- The operand bytes of an instruction (R111). -/
def Operand.bytes : Operand → List Byte
  | .implied | .accumulator => []
  | .source (.immediate imm) => [imm]
  | .source (.memory m) | .memory m => m.bytes
  | .relative off => [off]
  | .target a | .pointer a => [loByte a, hiByte a]

/-- The bytes of an instruction: its opcode, then its operand bytes (R110). -/
def encode (i : Instr) : List Byte := i.opcode :: i.operand.bytes

/-- The mnemonic of an instruction: that of its row. -/
def Instr.mnemonic (i : Instr) : Mnemonic := (entryOf i.opcode).mnemonic

/-- The addressing mode of an instruction: that of its row. -/
def Instr.mode (i : Instr) : Mode := (entryOf i.opcode).mode

end Sys2Proof
end

