-- ==== Sys2Proof/Machine/Memory.lean ====
section
/-! DEFINITION. The bytes of the machine that are memory and nothing else: RIOT RAM at its canonical addresses
$80..$FF and the image of a plain 4 KiB cartridge at $1000..$1FFF (20_memory.md R84). A list of cells in one
canonical form: addresses strictly rising, all of them RAM or cartridge addresses, and no cell that holds what
an unlisted address reads as. -/

namespace Sys2Proof.Machine

/-- The listed cells, lowest address first. -/
abbrev Memory := List Host.Cell

/-- What an unlisted address reads as. DESIGN CHOICE, unsafe, log 3: the spec calls RAM after power-on a draw
(10_state.md R65) and leaves the cartridge's contents to the host (20_memory.md R88). -/
def Memory.unlisted : Byte := 0

/-- RIOT RAM or cartridge ROM, at canonical addresses (R84). -/
def Memory.isCellAddr (k : Nat) : Bool := (0x80 ≤ k && k ≤ 0xFF) || (0x1000 ≤ k && k ≤ 0x1FFF)

/-- The byte at an address. -/
def Memory.read : Memory → Nat → Byte
  | [], _ => Memory.unlisted
  | (a, v) :: m, k => if a = k then v else Memory.read m k

/-- Store a byte, keeping the canonical form. -/
def Memory.write : Memory → Nat → Byte → Memory
  | [], k, v => if v = Memory.unlisted then [] else [(k, v)]
  | (a, b) :: m, k, v =>
    if k < a then if v = Memory.unlisted then (a, b) :: m else (k, v) :: (a, b) :: m
    else if k = a then if v = Memory.unlisted then m else (k, v) :: m
    else (a, b) :: Memory.write m k v

/-- Every address of the list is above lo and they rise strictly. -/
def Memory.rising : Nat → Memory → Bool
  | _, [] => true
  | lo, (a, _) :: m => lo < a && Memory.rising a m

/-- The canonical form. -/
def Memory.wf (m : Memory) : Bool :=
  Memory.rising 0 m && m.all fun c => c.2 != Memory.unlisted && Memory.isCellAddr c.1

end Sys2Proof.Machine
end

