-- ==== Sys2Proof/Machine/State.lean ====
section
/-! DEFINITION. The state of the block (10_state.md), the reasons a step can stop, and the state after reset
(10_state.md R75, 70_reset_and_hazards.md R520). -/

namespace Sys2Proof.Machine

/-- The status flags (10_state.md R33). -/
structure Status where
  n : Bool
  v : Bool
  b : Bool
  d : Bool
  i : Bool
  z : Bool
  c : Bool
  deriving DecidableEq, Repr

/-- A non-fatal report (60_exceptions.md R304). -/
inductive Report where
  | programCounterCycled
  deriving DecidableEq, Repr

/-- The bug field of a last-result record (60_exceptions.md R306). -/
inductive Bug where
  | none | jmpIndirectPageWrap | lateNVFlags
  deriving DecidableEq, Repr

/-- The last-result record (10_state.md R40). -/
structure LastResult where
  address     : Word
  opcode      : Byte
  defn        : Option Row
  ea          : Option Word
  operand     : Option Byte
  cycles      : Nat
  pageCrossed : Bool
  bug         : Bug
  final       : Bool
  deriving DecidableEq, Repr

/-- The five movable objects (00_scope.md R7). -/
inductive Obj where
  | p0 | p1 | m0 | m1 | bl
  deriving DecidableEq, Repr

/-- One value for each movable object. -/
structure PerObj (α : Type) where
  p0 : α
  p1 : α
  m0 : α
  m1 : α
  bl : α
  deriving DecidableEq, Repr

/-- The registers of player n and missile n (10_state.md R49). -/
structure Player where
  nusiz  : BitVec 6
  refp   : Bool
  grpNew : Byte
  grpOld : Byte
  vdelp  : Bool
  colup  : BitVec 7
  enam   : Bool
  resmp  : Bool
  deriving DecidableEq, Repr

/-- The 15 collision latches, named by their pair (10_state.md R51). -/
structure Collisions where
  m0p1 : Bool
  m0p0 : Bool
  m1p0 : Bool
  m1p1 : Bool
  p0pf : Bool
  p0bl : Bool
  p1pf : Bool
  p1bl : Bool
  m0pf : Bool
  m0bl : Bool
  m1pf : Bool
  m1bl : Bool
  blpf : Bool
  p0p1 : Bool
  m0m1 : Bool
  deriving DecidableEq, Repr

/-- The tags of the delay queue (10_state.md R61). -/
inductive Tag where
  | pf | res (o : Obj) | hsyncOff | cburstOff | hblankOff | newline
  deriving DecidableEq, Repr

/-- What a delay-queue slot does when it fires: its tag with its value (10_state.md R61). -/
inductive Event where
  | pf (pf0 pf1 pf2 : Byte)
  | res (o : Obj) (pos : Fin 160)
  | hsyncOff | cburstOff | hblankOff | newline
  deriving DecidableEq, Repr

/-- An occupied delay-queue slot (10_state.md R60). The insertion sequence number is the slot's place in the
queue's list, oldest first (log 17). -/
structure Slot where
  remaining : Nat
  event     : Event
  deriving DecidableEq, Repr

/-- The state of the TIA (10_state.md R41 to R61). -/
structure Tia where
  pclk         : Fin 4
  hsync        : Fin 57
  hblank       : Bool
  hmoveLatch   : Bool
  sigHsync     : Bool
  sigCburst    : Bool
  vsync        : Bool
  vblankVideo  : Bool
  vblankLatch  : Bool
  vblankDump   : Bool
  rsyncPending : Bool
  rdy          : Bool
  pos          : PerObj (Fin 160)
  hm           : PerObj (BitVec 4)
  more         : PerObj Bool
  pulse        : PerObj Bool
  hmRipple     : Option (Fin 16)
  hmArmed      : Bool
  pl0          : Player
  pl1          : Player
  enablNew     : Bool
  enablOld     : Bool
  vdelbl       : Bool
  /-- the bits a PF0 write stores, 7..4 (62_tia_objects.md R380); bits 3..0 are 0 -/
  pf0          : Byte
  /-- the last value written to PF0, all 8 bits (10_state.md R50; log 9) -/
  pf0Last      : Byte
  pf1          : Byte
  pf2          : Byte
  pfWork       : BitVec 20
  /-- the bits a CTRLPF write stores, 5, 4, 2, 1, 0 (62_tia_objects.md R380); bit 3 is 0 -/
  ctrlpf       : BitVec 6
  /-- bits 5..0 of the last value written to CTRLPF (10_state.md R50; log 9) -/
  ctrlpfLast   : BitVec 6
  colupf       : BitVec 7
  colubk       : BitVec 7
  cx           : Collisions
  inptLatch4   : Bool
  inptLatch5   : Bool
  audc0        : BitVec 5
  audc1        : BitVec 5
  audf0        : BitVec 5
  audf1        : BitVec 5
  audv0        : BitVec 4
  audv1        : BitVec 4
  inbox        : Option (BitVec 6 × Byte)
  dq           : List Slot
  /-- the model's own: a NEWLINE action fired in the current colour clock (log 23) -/
  newline      : Bool
  deriving DecidableEq, Repr

/-- The timer's divisors (10_state.md R66). -/
inductive Divisor where
  | d1 | d8 | d64 | d1024
  deriving DecidableEq, Repr

/-- A RIOT write register (20_memory.md R83). -/
inductive RiotReg where
  | swcha | swacnt | swchb | swbcnt
  | timer (d : Divisor)
  | edge (rising : Bool)
  deriving DecidableEq, Repr

/-- The state of the RIOT (10_state.md R66 to R69), less its RAM, which is in State.mem. -/
structure Riot where
  intim      : Byte
  divisor    : Divisor
  prescale   : Nat
  expired    : Bool
  expiredNow : Bool
  pa7Flag    : Bool
  edgeRising : Bool
  pa7Prev    : Bool
  ora        : Byte
  ddra       : Byte
  orb        : Byte
  ddrb       : Byte
  inbox      : Option (RiotReg × Byte)
  deriving DecidableEq, Repr

/-- The record that every TIA step emits (64_scheduler.md R497); pixel none is VideoBlack. -/
structure Signal where
  hsync       : Bool
  vsync       : Bool
  cburst      : Bool
  hblank      : Bool
  vblank      : Bool
  pixel       : Option (BitVec 7)
  newScanline : Bool
  deriving DecidableEq, Repr

/-- The cartridge in the slot (20_memory.md R88, log 4): the plain 4 KiB ROM of 95_test_vectors.md, whose image
is in State.mem, or any other cartridge, as its state for the functions of Config. -/
inductive Cart where
  | rom
  | host (state : Nat)
  deriving DecidableEq, Repr

/-- The kinds of fault with their information (60_exceptions.md R300). -/
inductive FaultKind where
  /-- raised by the meanings of the 41 opcodes of 30_encoding.md R118 (R301) -/
  | invalidOpcode (opcode : Byte)
  /-- raised by nothing in the block: the host's peek and poke only (20_memory.md R89, log 19) -/
  | unrecognisedAddress (a13 : Addr13)
  /-- raised by a bus write that finds its chip's inbox full (20_memory.md R86) -/
  | unservicedChipWrite (a13 : Addr13)
  /-- raised by a schedule with every slot occupied (10_state.md R60) -/
  | delayQueueFull (tag : Tag)
  /-- raised by nothing: every admitted instruction takes cycles (60_exceptions.md R302, log 19) -/
  | invalidOperationMidInstruction
  deriving DecidableEq, Repr

/-- The state of the block. The fields draws, cur and (in tia) newline are the model's own. -/
structure State where
  a          : Byte
  x          : Byte
  y          : Byte
  sp         : Byte
  pc         : Word
  p          : Status
  irqLine    : Bool
  nmiLine    : Bool
  nmiPending : Bool
  halted     : Bool
  fault      : Option FaultKind
  reports    : List Report
  cycleCount : Nat
  last       : LastResult
  /-- the record of the instruction in progress (log 20) -/
  cur        : LastResult
  tia        : Tia
  riot       : Riot
  /-- RIOT RAM and the image of a plain cartridge -/
  mem        : Memory
  cart       : Cart
  /-- the index of the next free value (log 6) -/
  draws      : Nat
  /-- cpu_cycles_consumed of the current step() (64_scheduler.md R494) -/
  stepCycles : Nat
  /-- the signal records of the current step(), newest first (R497, log 16) -/
  signals    : List Signal
  deriving DecidableEq, Repr

/-- A fault ends the step (00_scope.md R12). Each carries the state at the fault, in which the field fault is
set: the spec says what that state is (60_exceptions.md R301, R303; log 13). -/
inductive Fault where
  /-- raised by the meanings of the 41 invalid opcodes after the fetch cycle (R301). Safe: the spec's own
  terminal condition. -/
  | invalidOpcode (opcode : Byte) (at_ : State)
  /-- raised by a bus write that finds its chip's inbox full (20_memory.md R86). Safe, and unreachable from
  states with empty inboxes. -/
  | unservicedChipWrite (a13 : Addr13) (at_ : State)
  /-- raised by a TIA step that schedules an event with 16 slots occupied (10_state.md R60). Safe, and
  unreachable while tags are distinct. -/
  | delayQueueFull (tag : Tag) (at_ : State)
  deriving DecidableEq, Repr

/-- Why a step has no next state and no fault of its own. -/
inductive Refusal where
  /-- raised by exec for an instruction without a meaning; no instruction of this model. Safe. -/
  | notModelled (mnemonic : String)
  /-- raised by step in a state whose fault is set: the machine takes no further step (10_state.md R37,
  95_test_vectors.md EX3). Safe. -/
  | machineFaulted (kind : FaultKind)
  /-- raised by an RDY stall longer than the model's bound. Safe, and never raised: a stall ends within one
  scanline (Laws/Ops.lean stall_ready, log 14). -/
  | rdyNeverHigh
  deriving DecidableEq, Repr

/-- The result of anything that ends in a state. -/
abbrev Out := Host.Outcome State Fault Refusal

/-- The result of anything that ends in a value and a state. -/
abbrev Res (α : Type) := Host.Outcome (α × State) Fault Refusal

/-- The address phase's results (40_addressing.md R143 to R150): the effective address, the address without
the carry into its high byte, whether the two differ, and whether the mode computes a partial address. -/
structure EffAddr where
  ea        : Word
  uncarried : Word
  crossed   : Bool
  indexed   : Bool
  deriving DecidableEq, Repr

/-- What the arithmetic operations of 43_arith_logic.md R205 and R206 return. -/
structure AluResult where
  r : Byte
  n : Bool
  v : Bool
  z : Bool
  c : Bool
  deriving DecidableEq, Repr

/-- Where the chip select of 20_memory.md R81 sends an access. -/
inductive Target where
  | cart (off : BitVec 12)
  | ram (index : BitVec 7)
  | riot
  | tia
  deriving DecidableEq, Repr

/-- The on-flags of the six elements in one colour clock (62_tia_objects.md R411 to R421). -/
structure OnFlags where
  p0 : Bool
  p1 : Bool
  m0 : Bool
  m1 : Bool
  bl : Bool
  pf : Bool
  deriving DecidableEq, Repr

/-- A schedule call that found no slot: the tag, and the TIA as it was at the call (60_exceptions.md R303). -/
structure QueueFull where
  tag : Tag
  tia : Tia
  deriving DecidableEq, Repr

/-- The same value for every object. -/
def PerObj.all {α : Type} (v : α) : PerObj α := ⟨v, v, v, v, v⟩

/-- A last-result record with nothing in it. -/
def LastResult.blank : LastResult := ⟨0, 0, none, none, none, 0, false, .none, false⟩

/-- Player and missile registers after reset. DESIGN CHOICE, log 2. -/
def Player.reset : Player := ⟨0, false, 0, 0, false, 0, false, false⟩

/-- No collision latched. -/
def Collisions.clear : Collisions :=
  ⟨false, false, false, false, false, false, false, false, false, false, false, false, false, false, false⟩

/-- The TIA after reset: rsync_pending 0, inbox and delay queue empty (10_state.md R75). Every other value is
a draw of the spec's, named here: DESIGN CHOICE, unsafe, log 2. -/
def Tia.reset : Tia where
  pclk := 0
  hsync := 0
  hblank := false
  hmoveLatch := false
  sigHsync := false
  sigCburst := false
  vsync := false
  vblankVideo := false
  vblankLatch := false
  vblankDump := false
  rsyncPending := false
  rdy := true
  pos := .all 0
  hm := .all 0
  more := .all false
  pulse := .all false
  hmRipple := none
  hmArmed := false
  pl0 := .reset
  pl1 := .reset
  enablNew := false
  enablOld := false
  vdelbl := false
  pf0 := 0
  pf0Last := 0
  pf1 := 0
  pf2 := 0
  pfWork := 0
  ctrlpf := 0
  ctrlpfLast := 0
  colupf := 0
  colubk := 0
  cx := .clear
  inptLatch4 := false
  inptLatch5 := false
  audc0 := 0
  audc1 := 0
  audf0 := 0
  audf1 := 0
  audv0 := 0
  audv1 := 0
  inbox := none
  dq := []
  newline := false

/-- The RIOT after reset (10_state.md R75); intim and pa7_prev are draws of the spec's: DESIGN CHOICE, unsafe,
log 3. -/
def Riot.reset : Riot where
  intim := 0
  divisor := .d1024
  prescale := 1024
  expired := false
  expiredNow := false
  pa7Flag := false
  edgeRising := false
  pa7Prev := false
  ora := 0
  ddra := 0
  orb := 0
  ddrb := 0
  inbox := none

/-- The flags after reset: I is 1 (10_state.md R75), the others are draws of the spec's: DESIGN CHOICE, unsafe,
log 1. -/
def Status.reset : Status := ⟨false, false, false, false, true, false, false⟩

/-- The machine right after reset (10_state.md R75, 70_reset_and_hazards.md R520) with nothing in the
cartridge's image. SP, I, the bookkeeping, the RIOT's timer divisor and ports are the spec's; PC is the word
at $FFFC of that image; A, X, Y and the other flags are draws of the spec's: DESIGN CHOICE, unsafe, log 1. -/
def State.reset : State where
  a := 0
  x := 0
  y := 0
  sp := 0xFD
  pc := word (Memory.read [] 0x1FFD) (Memory.read [] 0x1FFC)
  p := .reset
  irqLine := false
  nmiLine := false
  nmiPending := false
  halted := false
  fault := none
  reports := []
  cycleCount := 0
  last := .blank
  cur := .blank
  tia := .reset
  riot := .reset
  mem := []
  cart := .rom
  draws := 0
  stepCycles := 0
  signals := []

end Sys2Proof.Machine
end

