-- ==== Sys2Proof/Machine/Riot.lean ====
section
/-! DEFINITION. The RIOT (6532): register selection, interval timer, ports, PA7 edge detect (63_riot.md,
20_memory.md R83). Its RAM is in State.mem. -/

namespace Sys2Proof.Machine

/-- CPU cycles a timer count lasts (10_state.md R66). -/
def Divisor.cycles : Divisor → Nat
  | .d1 => 1
  | .d8 => 8
  | .d64 => 64
  | .d1024 => 1024

/-- The divisor of a timer write register, a13[1:0] (20_memory.md R83). -/
def divisorOf (sel : BitVec 2) : Divisor :=
  match sel.toNat with
  | 0 => .d1
  | 1 => .d8
  | 2 => .d64
  | _ => .d1024

/-- The write register an address selects (20_memory.md R83, 63_riot.md R462). -/
def riotWriteReg (a13 : Addr13) : RiotReg :=
  if a13.getLsbD 2 then
    if a13.getLsbD 4 then .timer (divisorOf (a13.extractLsb' 0 2)) else .edge (a13.getLsbD 0)
  else
    match (a13.extractLsb' 0 2).toNat with
    | 0 => .swcha
    | 1 => .swacnt
    | 2 => .swchb
    | _ => .swbcnt

/-- A timer write (63_riot.md R452). -/
def loadTimer (d : Divisor) (v : Byte) (r : Riot) : Riot :=
  { r with intim := v, divisor := d, prescale := 1, expired := false, expiredNow := false }

/-- The effect of a serviced write (R452, R462, R471). -/
def riotWrite (reg : RiotReg) (v : Byte) (r : Riot) : Riot :=
  match reg with
  | .swcha => { r with ora := v }
  | .swacnt => { r with ddra := v }
  | .swchb => { r with orb := v }
  | .swbcnt => { r with ddrb := v }
  | .timer d => loadTimer d v r
  | .edge rising => { r with edgeRising := rising }

/-- The count when the prescaler reaches 0 (R453): underflow switches to divisor 1 and sets expired. -/
def timerCount (r : Riot) : Riot :=
  if r.intim = 0 then
    { r with intim := 0xFF, divisor := .d1, expired := true, expiredNow := true, prescale := Divisor.d1.cycles }
  else { r with intim := r.intim - 1, prescale := r.divisor.cycles }

/-- One timer tick (R453). -/
def timerTick (r : Riot) : Riot :=
  if r.prescale - 1 = 0 then timerCount r else { r with prescale := r.prescale - 1 }

/-- A port's pins as the CPU sees them: the latch where the direction bit is 1, else the pin (R470). -/
def portValue (latch ddr pins : Byte) : Byte := (latch &&& ddr) ||| (pins &&& ~~~ddr)

/-- PA7 edge detection with the level of the pin (R463). -/
def detectEdge (pin : Bool) (r : Riot) : Riot :=
  let lvl := if r.ddra.getLsbD 7 then r.ora.getLsbD 7 else pin
  { r with
    pa7Flag := r.pa7Flag || (if r.edgeRising then !r.pa7Prev && lvl else r.pa7Prev && !lvl)
    pa7Prev := lvl }

/-- Stages 2 and 3 of R450: the inbox, and the tick unless a timer write was serviced. -/
def serviceAndTick (r : Riot) : Riot :=
  match r.inbox with
  | none => timerTick r
  | some (.timer d, v) => riotWrite (.timer d) v { r with inbox := none }
  | some (reg, v) => timerTick (riotWrite reg v { r with inbox := none })

/-- RIOT.step() (R450), with the sampled PA7 pin. -/
def riotStep (pin : Bool) (r : Riot) : Riot := detectEdge pin (serviceAndTick { r with expiredNow := false })

/-- INTIM read: the value, and expired cleared unless the last step underflowed (R456). -/
def readIntim (r : Riot) : Byte × Riot := (r.intim, { r with expired := r.expired && r.expiredNow })

/-- TIMINT read: bit 7 expired, bit 6 PA7, which it clears (R455, R457). -/
def readTimint (r : Riot) : Byte × Riot :=
  (BitVec.ofBool r.expired ++ BitVec.ofBool r.pa7Flag ++ (0 : BitVec 6), { r with pa7Flag := false })

/-- A RIOT register read (20_memory.md R83; 63_riot.md R455, R470), with the pins sampled in it. -/
def riotRead (a13 : Addr13) (pinA pinB : Byte) (r : Riot) : Byte × Riot :=
  if a13.getLsbD 2 then
    if a13.getLsbD 0 then readTimint r else readIntim r
  else
    match (a13.extractLsb' 0 2).toNat with
    | 0 => (portValue r.ora r.ddra pinA, r)
    | 1 => (r.ddra, r)
    | 2 => (portValue r.orb r.ddrb pinB, r)
    | _ => (r.ddrb, r)

end Sys2Proof.Machine
end

