-- ==== Sys2Proof/Machine/Tia.lean ====
section
/-! DEFINITION. The TIA: delay queue, pixel clock and HSYNC counter, HMOVE ripple, register writes, object
counters, pixel, collisions, read registers (10_state.md R60, R61; 61_tia_clock.md; 62_tia_objects.md). -/

namespace Sys2Proof.Machine

/-! ### Objects -/

/-- The value of one object. -/
def PerObj.get {α : Type} (f : PerObj α) : Obj → α
  | .p0 => f.p0
  | .p1 => f.p1
  | .m0 => f.m0
  | .m1 => f.m1
  | .bl => f.bl

/-- Change the value of one object. -/
def PerObj.set {α : Type} (f : PerObj α) (o : Obj) (v : α) : PerObj α :=
  match o with
  | .p0 => { f with p0 := v }
  | .p1 => { f with p1 := v }
  | .m0 => { f with m0 := v }
  | .m1 => { f with m1 := v }
  | .bl => { f with bl := v }

/-- A value for each object from its name. -/
def PerObj.each {α : Type} (g : Obj → α) : PerObj α := ⟨g .p0, g .p1, g .m0, g .m1, g .bl⟩

/-! ### Delay queue (10_state.md R60, R61) -/

/-- The tag of an event. -/
def Event.tag : Event → Tag
  | .pf _ _ _ => .pf
  | .res o _ => .res o
  | .hsyncOff => .hsyncOff
  | .cburstOff => .cburstOff
  | .hblankOff => .hblankOff
  | .newline => .newline

/-- schedule(n, tag, value): an entry of the same tag is emptied first; the new entry is the youngest; with no
free slot, the fault DelayQueueFull (R60). -/
def schedule (n : Nat) (e : Event) (t : Tia) : Except QueueFull Tia :=
  let q := t.dq.filter fun sl => sl.event.tag ≠ e.tag
  if q.length < Config.dqCapacity then .ok { t with dq := q ++ [⟨n, e⟩] } else .error ⟨e.tag, t⟩

/-- pf_work from the three playfield registers, bit j of the result being display index j (R420): PF0 bits 4 to
7, PF1 bits 7 to 0, PF2 bits 0 to 7. -/
def buildPlayfield (pf0 pf1 pf2 : Byte) : BitVec 20 := pf2 ++ pf1.reverse ++ pf0.extractLsb' 4 4

/-- The action of an event that fires (R61; NEWLINE is 61_tia_clock.md R350). -/
def Event.apply (e : Event) (t : Tia) : Tia :=
  match e with
  | .pf a b c => { t with pfWork := buildPlayfield a b c }
  | .res o pos => { t with pos := t.pos.set o pos }
  | .hsyncOff => { t with sigHsync := false, sigCburst := true }
  | .cburstOff => { t with sigCburst := false }
  | .hblankOff => { t with hblank := false }
  | .newline => { t with hblank := true, rsyncPending := false, newline := true }

/-- One colour clock off a slot. -/
def Slot.countDown (sl : Slot) : Slot := { sl with remaining := sl.remaining - 1 }

/-- The queue after every slot has counted down. -/
def countedDown (t : Tia) : List Slot := t.dq.map Slot.countDown

/-- Stage 1 of R340, dq.tick(): count down, then fire the slots at 0 in insertion order and empty them (R60). -/
def queueStage (t : Tia) : Tia :=
  ((countedDown t).filter (·.remaining = 0)).foldl (fun t sl => sl.event.apply t)
    { t with dq := (countedDown t).filter (·.remaining ≠ 0), newline := false }

/-! ### Clock (61_tia_clock.md R341 to R361) -/

/-- The colour clock in the scanline (R344). -/
def Tia.cc (t : Tia) : Nat := 4 * t.hsync.val + (t.pclk.val + 2) % 4

/-- The HSYNC counter at a Φ2 rise (R342). -/
def advanceHsync (t : Tia) : Tia :=
  if t.hsync = 56 then { t with hsync := 0, hmoveLatch := false } else { t with hsync := t.hsync + 1 }

/-- The decode of the new count (R350). -/
def decodeHsync (t : Tia) : Except QueueFull Tia :=
  match t.hsync.val with
  | 4 => .ok { t with sigHsync := true }
  | 8 => schedule Config.hsyncEventDelay .hsyncOff t
  | 12 => schedule Config.hsyncEventDelay .cburstOff t
  | 16 => if t.hmoveLatch then .ok t else schedule Config.hsyncEventDelay .hblankOff t
  | 18 => if t.hmoveLatch then schedule Config.hsyncEventDelay .hblankOff t else .ok t
  | 56 => if t.rsyncPending then .ok t else schedule Config.hsyncEventDelay .newline t
  | _ => .ok t

/-- Start an armed ripple (R361, first line). -/
def armRipple (t : Tia) : Tia :=
  if t.hmArmed then { t with hmRipple := some Config.hmoveFirst, hmArmed := false } else t

/-- Whether the ripple value r stops the object: r = hm[o] ^ 7 (R361). -/
def rippleStops (r : Fin 16) (hm : BitVec 4) : Bool := r.val == (hm ^^^ 7).toNat

/-- One HMOVE ripple step at a Φ2 rise (R361). -/
def rippleStep (t : Tia) : Tia :=
  let t := armRipple t
  match t.hmRipple with
  | none => t
  | some r =>
    { t with
      more := .each fun o => t.more.get o && !rippleStops r (t.hm.get o)
      pulse := .each fun o => t.more.get o && !rippleStops r (t.hm.get o)
      hmRipple := if r.val = 0 then none else some (r - 1) }

/-- RDY release at the last colour clock of the scanline (R355). -/
def releaseRdy (t : Tia) : Tia := if t.cc = 227 then { t with rdy := true } else t

/-- What a Φ2 rise does (R340 stage 2): count, decode, ripple. -/
def phi2Rise (t : Tia) : Except QueueFull Tia :=
  match decodeHsync (advanceHsync t) with
  | .ok t => .ok (rippleStep t)
  | .error e => .error e

/-- The next pixel-clock phase, with the pulses of the step before cleared (R340 stage 2, R341). -/
def advancePclk (t : Tia) : Tia := { t with pulse := .all false, pclk := t.pclk + 1 }

/-- Stage 2 of R340. -/
def clockStage (t : Tia) : Except QueueFull Tia :=
  let t := advancePclk t
  if t.pclk = 2 then
    match phi2Rise t with
    | .ok t => .ok (releaseRdy t)
    | .error e => .error e
  else .ok (releaseRdy t)

/-! ### Register writes (62_tia_objects.md R380 to R393) -/

/-- VBLANK (R384). -/
def writeVblank (v : Byte) (t : Tia) : Tia :=
  { t with
    vblankVideo := v.getLsbD 1
    vblankLatch := v.getLsbD 6
    vblankDump := v.getLsbD 7
    inptLatch4 := if v.getLsbD 6 then t.inptLatch4 else true
    inptLatch5 := if v.getLsbD 6 then t.inptLatch5 else true }

/-- Bits 7..1, a palette index (R385). -/
def colourBits (v : Byte) : BitVec 7 := v.extractLsb' 1 7

/-- Bits 5, 4, 2, 1, 0, what CTRLPF stores (R380, R385). -/
def ctrlpfBits (v : Byte) : BitVec 6 := v.extractLsb' 0 6 &&& 0x37

/-- CTRLPF (R385): the stored bits, and bits 5..0 of the write as the last value (10_state.md R50; log 9). -/
def writeCtrlpf (v : Byte) (t : Tia) : Tia := { t with ctrlpf := ctrlpfBits v, ctrlpfLast := v.extractLsb' 0 6 }

/-- Bits 7..4, what PF0 stores (R380). -/
def pf0Bits (v : Byte) : Byte := v &&& 0xF0

/-- PF0 (R386): the stored bits, and the written value as the last one (10_state.md R50; log 9). -/
def writePf0 (v : Byte) (t : Tia) : Tia := { t with pf0 := pf0Bits v, pf0Last := v }

/-- Bits 7..4, what an HMxx register stores (R390). -/
def hmBits (v : Byte) : BitVec 4 := v.extractLsb' 4 4

/-- Schedule the commit of the three playfield registers' current values (R386). -/
def schedulePf (t : Tia) : Except QueueFull Tia := schedule Config.pfDelay (.pf t.pf0 t.pf1 t.pf2) t

/-- The delay and the counter value of a RESxx strobe, by hblank at service (R387). -/
def resetPosition (o : Obj) (hblank : Bool) : Nat × Fin 160 :=
  match o, hblank with
  | .p0, true | .p1, true => (Config.resDelayHblank, 156)
  | .p0, false | .p1, false => (Config.resDelayActive, 158)
  | .m0, true | .m1, true | .bl, true => (Config.resDelayHblank, 157)
  | .m0, false | .m1, false | .bl, false => (Config.resDelayActive, 159)

/-- RESP0, RESP1, RESM0, RESM1, RESBL (R387). -/
def strobeReset (o : Obj) (t : Tia) : Except QueueFull Tia :=
  schedule (resetPosition o t.hblank).1 (.res o (resetPosition o t.hblank).2) t

/-- RSYNC (61_tia_clock.md R356). -/
def strobeRsync (t : Tia) : Except QueueFull Tia :=
  schedule Config.hsyncEventDelay .newline { t with hsync := 0, pclk := 2, rsyncPending := true }

/-- HMOVE (61_tia_clock.md R360). -/
def strobeHmove (t : Tia) : Tia := { t with hmoveLatch := true, more := .all true, hmArmed := true }

/-- GRP0 (R389). -/
def writeGrp0 (v : Byte) (t : Tia) : Tia :=
  { t with pl0 := { t.pl0 with grpNew := v }, pl1 := { t.pl1 with grpOld := t.pl1.grpNew } }

/-- GRP1 (R389). -/
def writeGrp1 (v : Byte) (t : Tia) : Tia :=
  { t with
    pl1 := { t.pl1 with grpNew := v }
    pl0 := { t.pl0 with grpOld := t.pl0.grpNew }
    enablOld := t.enablNew }

/-- The effect of a write, by register number (R380, R383). Registers $2D to $3F have none (20_memory.md R89). -/
def tiaWrite (reg : BitVec 6) (v : Byte) (t : Tia) : Except QueueFull Tia :=
  match reg.toNat with
  | 0x00 => .ok { t with vsync := v.getLsbD 1 }
  | 0x01 => .ok (writeVblank v t)
  | 0x02 => .ok { t with rdy := false }
  | 0x03 => strobeRsync t
  | 0x04 => .ok { t with pl0 := { t.pl0 with nusiz := v.extractLsb' 0 6 } }
  | 0x05 => .ok { t with pl1 := { t.pl1 with nusiz := v.extractLsb' 0 6 } }
  | 0x06 => .ok { t with pl0 := { t.pl0 with colup := colourBits v } }
  | 0x07 => .ok { t with pl1 := { t.pl1 with colup := colourBits v } }
  | 0x08 => .ok { t with colupf := colourBits v }
  | 0x09 => .ok { t with colubk := colourBits v }
  | 0x0A => .ok (writeCtrlpf v t)
  | 0x0B => .ok { t with pl0 := { t.pl0 with refp := v.getLsbD 3 } }
  | 0x0C => .ok { t with pl1 := { t.pl1 with refp := v.getLsbD 3 } }
  | 0x0D => schedulePf (writePf0 v t)
  | 0x0E => schedulePf { t with pf1 := v }
  | 0x0F => schedulePf { t with pf2 := v }
  | 0x10 => strobeReset .p0 t
  | 0x11 => strobeReset .p1 t
  | 0x12 => strobeReset .m0 t
  | 0x13 => strobeReset .m1 t
  | 0x14 => strobeReset .bl t
  | 0x15 => .ok { t with audc0 := v.extractLsb' 0 5 }
  | 0x16 => .ok { t with audc1 := v.extractLsb' 0 5 }
  | 0x17 => .ok { t with audf0 := v.extractLsb' 0 5 }
  | 0x18 => .ok { t with audf1 := v.extractLsb' 0 5 }
  | 0x19 => .ok { t with audv0 := v.extractLsb' 0 4 }
  | 0x1A => .ok { t with audv1 := v.extractLsb' 0 4 }
  | 0x1B => .ok (writeGrp0 v t)
  | 0x1C => .ok (writeGrp1 v t)
  | 0x1D => .ok { t with pl0 := { t.pl0 with enam := v.getLsbD 1 } }
  | 0x1E => .ok { t with pl1 := { t.pl1 with enam := v.getLsbD 1 } }
  | 0x1F => .ok { t with enablNew := v.getLsbD 1 }
  | 0x20 => .ok { t with hm := t.hm.set .p0 (hmBits v) }
  | 0x21 => .ok { t with hm := t.hm.set .p1 (hmBits v) }
  | 0x22 => .ok { t with hm := t.hm.set .m0 (hmBits v) }
  | 0x23 => .ok { t with hm := t.hm.set .m1 (hmBits v) }
  | 0x24 => .ok { t with hm := t.hm.set .bl (hmBits v) }
  | 0x25 => .ok { t with pl0 := { t.pl0 with vdelp := v.getLsbD 0 } }
  | 0x26 => .ok { t with pl1 := { t.pl1 with vdelp := v.getLsbD 0 } }
  | 0x27 => .ok { t with vdelbl := v.getLsbD 0 }
  | 0x28 => .ok { t with pl0 := { t.pl0 with resmp := v.getLsbD 1 } }
  | 0x29 => .ok { t with pl1 := { t.pl1 with resmp := v.getLsbD 1 } }
  | 0x2A => .ok (strobeHmove t)
  | 0x2B => .ok { t with hm := .all 0 }
  | 0x2C => .ok { t with cx := .clear }
  | _ => .ok t

/-- Stage 3 of R340: serve the inbox when service is true (R383). -/
def serviceStage (service : Bool) (t : Tia) : Except QueueFull Tia :=
  match service, t.inbox with
  | true, some (reg, v) => tiaWrite reg v { t with inbox := none }
  | _, _ => .ok t

/-! ### Object counters (62_tia_objects.md R388, R400) -/

/-- The counter of an object after its tick (R400). -/
def tickedPos (t : Tia) (o : Obj) : Fin 160 :=
  if !t.hblank || t.pulse.get o then t.pos.get o + 1 else t.pos.get o

/-- The player mode, NUSIZ bits 2..0 (R410). -/
def Player.mode (pl : Player) : BitVec 3 := pl.nusiz.extractLsb' 0 3

/-- Where a missile locked to its player is (R388). -/
def lockedPos (pl : Player) (player missile : Fin 160) : Fin 160 :=
  if pl.resmp then player + Config.resmpOffset pl.mode else missile

/-- Stage 4 of R340: the ticks, then RESMPx (R400, R388). -/
def objectStage (t : Tia) : Tia :=
  { t with
    pos :=
      { p0 := tickedPos t .p0
        p1 := tickedPos t .p1
        m0 := lockedPos t.pl0 (tickedPos t .p0) (tickedPos t .m0)
        m1 := lockedPos t.pl1 (tickedPos t .p1) (tickedPos t .m1)
        bl := tickedPos t .bl } }

/-! ### Pixel and collisions (62_tia_objects.md R410 to R436) -/

/-- Copy offsets of a player mode (R410). -/
def copyOffsets (mode : BitVec 3) : List (Fin 160) :=
  match mode.toNat with
  | 1 => [0, 16]
  | 2 => [0, 32]
  | 3 => [0, 16, 32]
  | 4 => [0, 64]
  | 6 => [0, 32, 64]
  | _ => [0]

/-- Scale of a player mode (R410). -/
def playerScale (mode : BitVec 3) : Nat :=
  match mode.toNat with
  | 5 => 2
  | 7 => 4
  | _ => 1

/-- Start delay of a player mode (R410). -/
def playerStart (mode : BitVec 3) : Fin 160 :=
  match mode.toNat with
  | 5 | 7 => 1
  | _ => 0

/-- The graphics a player shows: the old copy under vertical delay (R411). -/
def Player.shown (pl : Player) : Byte := if pl.vdelp then pl.grpOld else pl.grpNew

/-- Whether the copy at an offset lights the pixel (R411). -/
def copyOn (pl : Player) (p off : Fin 160) : Bool :=
  let d := (p - off - playerStart pl.mode).val
  let i := d / playerScale pl.mode
  decide (d < 8 * playerScale pl.mode) && (if pl.refp then pl.shown.getLsbD i else pl.shown.getLsbD (7 - i))

/-- Player on (R411). -/
def playerOn (pl : Player) (p : Fin 160) : Bool := (copyOffsets pl.mode).any (copyOn pl p)

/-- Missile on (R412). -/
def missileOn (pl : Player) (p : Fin 160) : Bool :=
  pl.enam && !pl.resmp &&
    (copyOffsets pl.mode).any fun off => decide ((p - off).val < 2 ^ (pl.nusiz.extractLsb' 4 2).toNat)

/-- Ball on (R413). -/
def ballOn (t : Tia) : Bool :=
  (if t.vdelbl then t.enablOld else t.enablNew) && decide (t.pos.bl.val < 2 ^ (t.ctrlpf.extractLsb' 4 2).toNat)

/-- The playfield's display index for a visible pixel (R421). -/
def playfieldIndex (reflect : Bool) (x : Nat) : Nat :=
  if x < 80 then x / 4 else if reflect then 19 - (x - 80) / 4 else (x - 80) / 4

/-- Playfield on: never before cc 68 (R421; log 12). -/
def playfieldOn (t : Tia) : Bool :=
  decide (68 ≤ t.cc) && t.pfWork.getLsbD (playfieldIndex (t.ctrlpf.getLsbD 0) (t.cc - 68))

/-- Which elements are on after stage 4 (R411 to R421). -/
def onFlags (t : Tia) : OnFlags where
  p0 := playerOn t.pl0 t.pos.p0
  p1 := playerOn t.pl1 t.pos.p1
  m0 := missileOn t.pl0 t.pos.m0
  m1 := missileOn t.pl1 t.pos.m1
  bl := ballOn t
  pf := playfieldOn t

/-- The playfield's colour: score mode gives it the players' colours, left and right (R430). -/
def playfieldColour (t : Tia) : BitVec 7 :=
  if t.ctrlpf.getLsbD 1 && !t.ctrlpf.getLsbD 2 then
    if t.cc - 68 < 80 then t.pl0.colup else t.pl1.colup
  else t.colupf

/-- The colour by priority (R430). -/
def pixelColour (t : Tia) (on : OnFlags) : BitVec 7 :=
  if t.ctrlpf.getLsbD 2 then
    if on.pf then playfieldColour t
    else if on.bl then t.colupf
    else if on.p0 || on.m0 then t.pl0.colup
    else if on.p1 || on.m1 then t.pl1.colup
    else t.colubk
  else
    if on.p0 || on.m0 then t.pl0.colup
    else if on.p1 || on.m1 then t.pl1.colup
    else if on.pf then playfieldColour t
    else if on.bl then t.colupf
    else t.colubk

/-- The pixel, none for VideoBlack (R430). -/
def pixelOf (t : Tia) (on : OnFlags) : Option (BitVec 7) :=
  if t.hblank || t.vblankVideo then none else some (pixelColour t on)

/-- The latches with the pairs that are on in this clock (R436). -/
def Collisions.join (cx : Collisions) (on : OnFlags) : Collisions where
  m0p1 := cx.m0p1 || (on.m0 && on.p1)
  m0p0 := cx.m0p0 || (on.m0 && on.p0)
  m1p0 := cx.m1p0 || (on.m1 && on.p0)
  m1p1 := cx.m1p1 || (on.m1 && on.p1)
  p0pf := cx.p0pf || (on.p0 && on.pf)
  p0bl := cx.p0bl || (on.p0 && on.bl)
  p1pf := cx.p1pf || (on.p1 && on.pf)
  p1bl := cx.p1bl || (on.p1 && on.bl)
  m0pf := cx.m0pf || (on.m0 && on.pf)
  m0bl := cx.m0bl || (on.m0 && on.bl)
  m1pf := cx.m1pf || (on.m1 && on.pf)
  m1bl := cx.m1bl || (on.m1 && on.bl)
  blpf := cx.blpf || (on.bl && on.pf)
  p0p1 := cx.p0p1 || (on.p0 && on.p1)
  m0m1 := cx.m0m1 || (on.m0 && on.m1)

/-- The state after stage 5: collisions outside HBLANK (R436), latched fire buttons (R442). -/
def latchStage (btn4 btn5 : Bool) (t : Tia) : Tia :=
  { t with
    cx := if t.hblank then t.cx else t.cx.join (onFlags t)
    inptLatch4 := if t.vblankLatch then t.inptLatch4 && btn4 else t.inptLatch4
    inptLatch5 := if t.vblankLatch then t.inptLatch5 && btn5 else t.inptLatch5 }

/-- The record of the step (64_scheduler.md R497). -/
def signalOf (t : Tia) : Signal where
  hsync := t.sigHsync
  vsync := t.vsync
  cburst := t.sigCburst
  hblank := t.hblank
  vblank := t.vblankVideo
  pixel := pixelOf t (onFlags t)
  newScanline := t.newline

/-- Stages 1 to 3 of R340. -/
def clockAndService (service : Bool) (t : Tia) : Except QueueFull Tia :=
  match clockStage (queueStage t) with
  | .ok t => serviceStage service t
  | .error e => .error e

/-- One colour clock, TIA.step(service) (61_tia_clock.md R340), with the button pins sampled in it (R442): the
state after it and the record it emits. -/
def tiaStep (service btn4 btn5 : Bool) (t : Tia) : Except QueueFull (Tia × Signal) :=
  match clockAndService service t with
  | .ok t => .ok (latchStage btn4 btn5 (objectStage t), signalOf (objectStage t))
  | .error e => .error e

/-! ### Read registers (62_tia_objects.md R381, R440 to R442) -/

/-- A read's byte from its bits 7 and 6 and undriven bits 5..0 (R440). -/
def readBits (b7 b6 : Bool) (d : Byte) : Byte := BitVec.ofBool b7 ++ BitVec.ofBool b6 ++ d.extractLsb' 0 6

/-- The byte of a TIA read register (R381). The draws: undriven gives the undriven bits, paddle the paddle
bit by its number, btn4 and btn5 the button pins. -/
def tiaRead (t : Tia) (reg : BitVec 4) (undriven : Byte) (paddle : BitVec 2 → Bool) (btn4 btn5 : Bool) : Byte :=
  let d6 := undriven.getLsbD 6
  match reg.toNat with
  | 0x0 => readBits t.cx.m0p1 t.cx.m0p0 undriven
  | 0x1 => readBits t.cx.m1p0 t.cx.m1p1 undriven
  | 0x2 => readBits t.cx.p0pf t.cx.p0bl undriven
  | 0x3 => readBits t.cx.p1pf t.cx.p1bl undriven
  | 0x4 => readBits t.cx.m0pf t.cx.m0bl undriven
  | 0x5 => readBits t.cx.m1pf t.cx.m1bl undriven
  | 0x6 => readBits t.cx.blpf d6 undriven
  | 0x7 => readBits t.cx.p0p1 t.cx.m0m1 undriven
  | 0x8 => readBits (!t.vblankDump && paddle 0) d6 undriven
  | 0x9 => readBits (!t.vblankDump && paddle 1) d6 undriven
  | 0xA => readBits (!t.vblankDump && paddle 2) d6 undriven
  | 0xB => readBits (!t.vblankDump && paddle 3) d6 undriven
  | 0xC => readBits (if t.vblankLatch then t.inptLatch4 else btn4) d6 undriven
  | 0xD => readBits (if t.vblankLatch then t.inptLatch5 else btn5) d6 undriven
  | _ => undriven

end Sys2Proof.Machine
end

