-- ==== Sys2Proof/Machine/Ops.lean ====
section
/-! DEFINITION. The named operations over state: register updates, the bus and its chip select, the scheduler
tick, RDY stalls, bus cycles, the stack, interrupt entry and return, reset (10_state.md; 20_memory.md;
46_control.md; 60_exceptions.md; 64_scheduler.md; 70_reset_and_hazards.md). -/

namespace Sys2Proof.Machine

/-- Run k on what o answers; a fault or a refusal ends the sequence. -/
def andThen {α β : Type} (o : Host.Outcome α Fault Refusal) (k : α → Host.Outcome β Fault Refusal) :
    Host.Outcome β Fault Refusal :=
  match o with
  | .next a => k a
  | .fault r => .fault r
  | .refused r => .refused r

/-! ### Register updates -/

def State.setA (s : State) (v : Byte) : State := { s with a := v }
def State.setX (s : State) (v : Byte) : State := { s with x := v }
def State.setY (s : State) (v : Byte) : State := { s with y := v }
def State.setSp (s : State) (v : Byte) : State := { s with sp := v }
def State.setPc (s : State) (v : Word) : State := { s with pc := v }
def State.setP (s : State) (v : Status) : State := { s with p := v }
def State.setCur (s : State) (v : LastResult) : State := { s with cur := v }
def State.setMem (s : State) (v : Memory) : State := { s with mem := v }
def State.setTia (s : State) (v : Tia) : State := { s with tia := v }
def State.setRiot (s : State) (v : Riot) : State := { s with riot := v }
def State.setCart (s : State) (v : Cart) : State := { s with cart := v }
def State.setHalted (s : State) (v : Bool) : State := { s with halted := v }

/-- The next free value has been taken (log 6). -/
def State.nextDraw (s : State) : State := { s with draws := s.draws + 1 }

/-- pc <- pc + 1; from $FFFF it wraps and reports ProgramCounterCycled (10_state.md R32, 60_exceptions.md
R304). -/
def State.incPc (s : State) : State :=
  { s with
    pc := s.pc + 1
    reports := if s.pc = 0xFFFF then s.reports ++ [.programCounterCycled] else s.reports }

/-- SetNZ(v) (41_load_store.md R186). -/
def State.setNZ (s : State) (v : Byte) : State := s.setP { s.p with n := v.msb, z := v == 0 }

/-! ### The record of the instruction in progress (10_state.md R40; log 10, log 20) -/

def State.noteEa (s : State) (ea : Word) : State := s.setCur { s.cur with ea := some ea }
def State.noteOperand (s : State) (v : Byte) : State := s.setCur { s.cur with operand := some v }
def State.notePageCrossed (s : State) (crossed : Bool) : State := s.setCur { s.cur with pageCrossed := crossed }
def State.noteBug (s : State) (bug : Bug) : State := s.setCur { s.cur with bug := bug }

/-- One more bus cycle of the instruction; stall cycles are not counted (R40). -/
def State.noteCycle (s : State) : State := s.setCur { s.cur with cycles := s.cur.cycles + 1 }

/-! ### The status byte (10_state.md R33) -/

/-- P as it is pushed: bit 5 is 1, bit 4 is the given B'. -/
def Status.pushed (p : Status) (b : Bool) : Byte :=
  BitVec.ofBool p.n ++ BitVec.ofBool p.v ++ (1 : BitVec 1) ++ BitVec.ofBool b ++
    BitVec.ofBool p.d ++ BitVec.ofBool p.i ++ BitVec.ofBool p.z ++ BitVec.ofBool p.c

/-- P as it is pulled: B from bit 4, bit 5 discarded. -/
def Status.pulled (v : Byte) : Status where
  n := v.getLsbD 7
  v := v.getLsbD 6
  b := v.getLsbD 4
  d := v.getLsbD 3
  i := v.getLsbD 2
  z := v.getLsbD 1
  c := v.getLsbD 0

/-! ### The cartridge (20_memory.md R88; log 4) -/

/-- The address in State.mem of a byte of the plain cartridge's image (R84). -/
def romCell (off : BitVec 12) : Nat := 0x1000 + off.toNat

/-- The byte cart.read gives; a plain ROM's image is in memory. -/
def Cart.value (c : Cart) (m : Memory) (off : BitVec 12) : Byte :=
  match c with
  | .rom => Memory.read m (romCell off)
  | .host n => (Config.cartRead n off).1

/-- The cartridge after cart.read. -/
def Cart.afterRead (c : Cart) (off : BitVec 12) : Cart :=
  match c with
  | .rom => .rom
  | .host n => .host (Config.cartRead n off).2

/-- The cartridge after cart.write; a plain ROM has no writable bytes. -/
def Cart.afterWrite (c : Cart) (off : BitVec 12) (v : Byte) : Cart :=
  match c with
  | .rom => .rom
  | .host n => .host (Config.cartWrite n off v)

/-- The cartridge after cart.listen; a plain ROM has no hotspots. -/
def Cart.afterListen (c : Cart) (a13 : Addr13) (v : Byte) : Cart :=
  match c with
  | .rom => .rom
  | .host n => .host (Config.cartListen n a13 v)

/-- The cartridge after cart.step. -/
def Cart.afterStep (c : Cart) : Cart :=
  match c with
  | .rom => .rom
  | .host n => .host (Config.cartStep n)

/-! ### Chip select and bus accesses (20_memory.md R80 to R90) -/

/-- Bits 12..0 of a CPU address (R80). -/
def busAddr (addr : Word) : Addr13 := addr.extractLsb' 0 13

/-- Chip select (R81). -/
def chipSelect (a13 : Addr13) : Target :=
  if a13.getLsbD 12 then .cart (a13.extractLsb' 0 12)
  else if a13.getLsbD 7 then
    if a13.getLsbD 9 then .riot else .ram (a13.extractLsb' 0 7)
  else .tia

/-- The canonical address of a byte of RIOT RAM (R84). -/
def ramCell (index : BitVec 7) : Nat := 0x80 + index.toNat

/-- The RAM byte a CPU address reaches, by its canonical address: what a write to the address stores to
(20_memory.md R81, 63_riot.md R451). -/
def ramTarget (addr : Word) : Option Nat :=
  match chipSelect (busAddr addr) with
  | .ram i => some (ramCell i)
  | _ => none

/-- The RAM or plain-cartridge byte a CPU address reaches, by its canonical address. -/
def plainTarget (addr : Word) : Option Nat :=
  match chipSelect (busAddr addr) with
  | .ram i => some (ramCell i)
  | .cart off => some (romCell off)
  | _ => none

/-- A RIOT register read with this read's samples of the pins (63_riot.md R470). -/
def riotReadNow (a13 : Addr13) (s : State) : Byte × Riot :=
  riotRead a13 (Config.pinA s.draws) (Config.pinB s.draws) s.riot

/-- A TIA register read with this read's draws (62_tia_objects.md R440). -/
def tiaReadNow (a13 : Addr13) (s : State) : Byte :=
  tiaRead s.tia (a13.extractLsb' 0 4) (Config.undriven s.draws) (fun n => Config.paddle n s.draws)
    (Config.button4 s.draws) (Config.button5 s.draws)

/-- The byte a read returns, by the chip selected (R87). -/
def readValue (a13 : Addr13) (s : State) : Byte :=
  match chipSelect a13 with
  | .cart off => s.cart.value s.mem off
  | .ram i => Memory.read s.mem (ramCell i)
  | .tia => tiaReadNow a13 s
  | .riot => (riotReadNow a13 s).1

/-- The RIOT after a read: INTIM and TIMINT have side effects (R90). -/
def riotAfterRead (a13 : Addr13) (s : State) : Riot :=
  match chipSelect a13 with
  | .riot => (riotReadNow a13 s).2
  | _ => s.riot

/-- The cartridge after a read: cart.read if selected, then cart.listen (R87). -/
def cartAfterRead (a13 : Addr13) (s : State) : Cart :=
  match chipSelect a13 with
  | .cart off => (s.cart.afterRead off).afterListen a13 (readValue a13 s)
  | _ => s.cart.afterListen a13 (readValue a13 s)

/-- The draw index after a read: a TIA or RIOT read takes fresh values (log 6). -/
def drawsAfterRead (a13 : Addr13) (s : State) : Nat :=
  match chipSelect a13 with
  | .tia | .riot => s.draws + 1
  | _ => s.draws

/-- The state after the bus access of a read cycle (R87). -/
def afterRead (addr : Word) (s : State) : State :=
  { s with
    riot := riotAfterRead (busAddr addr) s
    cart := cartAfterRead (busAddr addr) s
    draws := drawsAfterRead (busAddr addr) s }

/-- The bus access of a read cycle: the byte, and the state after it (R87). -/
def busRead (addr : Word) (s : State) : Byte × State := (readValue (busAddr addr) s, afterRead addr s)

/-- Whether a write finds its chip's inbox full (R86). -/
def inboxFull (a13 : Addr13) (s : State) : Bool :=
  (s.tia.inbox.isSome && chipSelect a13 == .tia) || (s.riot.inbox.isSome && chipSelect a13 == .riot)

/-- Memory after a write: a RIOT RAM write stores at once (R86). -/
def memAfterWrite (a13 : Addr13) (v : Byte) (s : State) : Memory :=
  match chipSelect a13 with
  | .ram i => Memory.write s.mem (ramCell i) v
  | _ => s.mem

/-- The TIA after a write: the inbox (R86). -/
def tiaAfterWrite (a13 : Addr13) (v : Byte) (s : State) : Tia :=
  match chipSelect a13 with
  | .tia => { s.tia with inbox := some (a13.extractLsb' 0 6, v) }
  | _ => s.tia

/-- The RIOT after a write: the inbox (R86). -/
def riotAfterWrite (a13 : Addr13) (v : Byte) (s : State) : Riot :=
  match chipSelect a13 with
  | .riot => { s.riot with inbox := some (riotWriteReg a13, v) }
  | _ => s.riot

/-- The cartridge after a write: cart.write if selected, then cart.listen (R86). -/
def cartAfterWrite (a13 : Addr13) (v : Byte) (s : State) : Cart :=
  match chipSelect a13 with
  | .cart off => (s.cart.afterWrite off v).afterListen a13 v
  | _ => s.cart.afterListen a13 v

/-- The state after the bus access of a write cycle (R86). -/
def afterWrite (addr : Word) (v : Byte) (s : State) : State :=
  { s with
    mem := memAfterWrite (busAddr addr) v s
    tia := tiaAfterWrite (busAddr addr) v s
    riot := riotAfterWrite (busAddr addr) v s
    cart := cartAfterWrite (busAddr addr) v s }

/-- The bus access of a write cycle (R86): a full inbox faults before the access has any effect (60_exceptions.md
R303). -/
def busWrite (addr : Word) (v : Byte) (s : State) : Out :=
  if inboxFull (busAddr addr) s then
    .fault (.unservicedChipWrite (busAddr addr) { s with fault := some (.unservicedChipWrite (busAddr addr)) })
  else .next (afterWrite addr v s)

/-! ### The scheduler tick (64_scheduler.md R490) -/

/-- Step 1: cpu_cycle_count, and the cycles of this step() (R494). -/
def countCycle (s : State) : State := { s with cycleCount := s.cycleCount + 1, stepCycles := s.stepCycles + 1 }

/-- Step 2: cart.step(). -/
def tickCart (s : State) : State := s.setCart s.cart.afterStep

/-- Step 3: RIOT.step() with a fresh sample of pin A7 (63_riot.md R450, R463). -/
def tickRiot (s : State) : State := (s.setRiot (riotStep ((Config.pinA s.draws).getLsbD 7) s.riot)).nextDraw

/-- The state after a colour clock: the TIA, the record emitted, the draw of the button pins. -/
def State.clocked (s : State) (t : Tia) (sig : Signal) : State :=
  { s with tia := t, signals := sig :: s.signals, draws := s.draws + 1 }

/-- Steps 4, 5, 6: TIA.step(service) with fresh samples of the button pins (62_tia_objects.md R442). A DelayQueueFull
leaves the TIA as it was at the schedule call (60_exceptions.md R303); what it leaves of the rest is runCycle's. -/
def tickTia (service : Bool) (s : State) : Out :=
  match tiaStep service (Config.button4 s.draws) (Config.button5 s.draws) s.tia with
  | .ok (t, sig) => .next (s.clocked t sig)
  | .error e => .fault (.delayQueueFull e.tag { s with tia := e.tia, fault := some (.delayQueueFull e.tag) })

/-- The tick that follows every CPU cycle (R490). -/
def tick (s : State) : Out :=
  andThen (tickTia true (tickRiot (tickCart (countCycle s)))) fun s =>
  andThen (tickTia false s) fun s => tickTia true s

/-- One CPU cycle from its start: the tick from the state after the cycle's bus access. A DelayQueueFull in it leaves
the state at the start of the cycle (00_scope.md R12) but for the TIA, which stays as it was at the schedule call
(60_exceptions.md R303). -/
def runCycle (start accessed : State) : Out :=
  match tick accessed with
  | .fault (.delayQueueFull tag t) => .fault (.delayQueueFull tag { start with tia := t.tia, fault := t.fault })
  | o => o

/-! ### RDY stalls (64_scheduler.md R493, R494) -/

/-- The most stall cycles a stall can take: one to empty an inbox and 76 for a scanline (log 14). -/
def stallBound : Nat := 77

/-- Stall cycles while RDY is 0, at most fuel of them; halted_for_rdy is 1 from the start of the first (R493). -/
def stallFor : Nat → State → Out
  | 0, s => if s.tia.rdy then .next (s.setHalted false) else .refused .rdyNeverHigh
  | fuel + 1, s =>
    if s.tia.rdy then .next (s.setHalted false) else andThen (runCycle (s.setHalted true) (s.setHalted true)) (stallFor fuel)

/-- The RDY stall before a read cycle (R493), and the drain at the end of step() (R494, log 15). -/
def stall (s : State) : Out := stallFor stallBound s

/-! ### Bus cycles (00_scope.md R11) -/

/-- MemRead(addr, 1): stall, read, tick. The cycle starts after the stall. -/
def memRead (addr : Word) (s : State) : Res Byte :=
  andThen (stall s) fun s =>
  andThen (runCycle s (busRead addr s).2.noteCycle) fun s' => .next ((busRead addr s).1, s')

/-- DummyRead(addr): a MemRead whose value is discarded. -/
def dummyRead (addr : Word) (s : State) : Out := andThen (memRead addr s) fun r => .next r.2

/-- MemWrite(addr, 1, v): write, tick; never stalled (R493). -/
def memWrite (addr : Word) (v : Byte) (s : State) : Out :=
  andThen (busWrite addr v s) fun s' => runCycle s s'.noteCycle

/-- MemRead(pc, 1); pc <- pc + 1. -/
def fetchByte (s : State) : Res Byte := andThen (memRead s.pc s) fun r => .next (r.1, r.2.incPc)

/-! ### The stack (10_state.md R31) -/

/-- $0100 + SP. -/
def stackAddr (s : State) : Word := word 0x01 s.sp

/-- Push a byte. -/
def push (v : Byte) (s : State) : Out :=
  andThen (memWrite (stackAddr s) v s) fun s => .next (s.setSp (s.sp - 1))

/-- Pull a byte: the read is at $0100 + the new SP, which SP holds when the cycle has run (log 21). -/
def pull (s : State) : Res Byte :=
  andThen (memRead (word 0x01 (s.sp + 1)) s) fun r => .next (r.1, r.2.setSp (s.sp + 1))

/-! ### Taking an interrupt and returning (46_control.md R262, R263; 60_exceptions.md R310 to R316) -/

/-- The NMI vector (R316). -/
def nmiVector : Word := 0xFFFA

/-- The reset vector (R316). -/
def resetVector : Word := 0xFFFC

/-- The IRQ and BRK vector (R316). -/
def irqVector : Word := 0xFFFE

/-- Cycles 3 to 7 of BRK, IRQ and NMI (R262, R315): push PCH, PCL and P with the given B', then I <- 1 and PC
from the vector; D is unchanged. -/
def takeInterrupt (vec : Word) (b : Bool) (s : State) : Out :=
  andThen (push (hiByte s.pc) s) fun s =>
  andThen (push (loByte s.pc) s) fun s =>
  andThen (push (s.p.pushed b) s) fun s =>
  andThen (memRead vec s) fun lo =>
  andThen (memRead (vec + 1) (lo.2.setP { lo.2.p with i := true })) fun hi =>
  .next (hi.2.setPc (word hi.1 lo.1))

/-- The IRQ and NMI entry (R315): two dummy reads of PC, then the shared cycles with B' = 0. -/
def interruptEntry (vec : Word) (s : State) : Out :=
  andThen (dummyRead s.pc s) fun s =>
  andThen (dummyRead s.pc s) fun s =>
  takeInterrupt vec false s

/-- Cycles 4 to 6 of RTI (R263): pull P, PCL, PCH. -/
def returnFromInterrupt (s : State) : Out :=
  andThen (pull s) fun p =>
  andThen (pull (p.2.setP (.pulled p.1))) fun lo =>
  andThen (pull lo.2) fun hi =>
  .next (hi.2.setPc (word hi.1 lo.1))

/-- A change of the nmi_line input: its 0-to-1 edge sets nmi_pending (10_state.md R36). A host operation; no
step uses it, for the VCS has no such line (60_exceptions.md R311, log 7). -/
def State.setNmiLine (s : State) (level : Bool) : State :=
  { s with nmiLine := level, nmiPending := s.nmiPending || (!s.nmiLine && level) }

/-- A change of the irq_line input (R312, log 7). A host operation. -/
def State.setIrqLine (s : State) (level : Bool) : State := { s with irqLine := level }

/-! ### Invalid opcodes (47_undocumented.md R286, 60_exceptions.md R301) -/

/-- InvalidOpcode, after the fetch cycle: PC is the opcode's address + 1, the last result keeps the previous
instruction's values with final = 0. -/
def invalidOpcode (op : Byte) (s : State) : Out :=
  .fault (.invalidOpcode op
    { s with fault := some (.invalidOpcode op), last := { s.last with final := false } })

/-! ### Reset (70_reset_and_hazards.md R520, R522) -/

/-- The cells of a memory that are the cartridge's image. -/
def romPart (m : Memory) : Memory := m.filter fun c => decide (0x1000 ≤ c.1)

/-- PC from the reset vector: cart.read($FFC), then cart.read($FFD), with no listen, step or tick (R520, log
22). -/
def loadResetVector (s : State) : State :=
  (s.setCart ((s.cart.afterRead 0xFFC).afterRead 0xFFD)).setPc
    (word ((s.cart.afterRead 0xFFC).value s.mem 0xFFD) (s.cart.value s.mem 0xFFC))

/-- reset() of a machine: its cartridge, its input lines and the model's draw counter stay, everything else is as
State.reset has it (R520, R522). -/
def resetMachine (s : State) : State :=
  loadResetVector
    { State.reset with
      cart := s.cart, mem := romPart s.mem, irqLine := s.irqLine, nmiLine := s.nmiLine, draws := s.draws }

/-- The image of a plain cartridge whose bytes stand from an offset on, lowest first (20_memory.md R84). -/
def romImage : Nat → List Byte → Memory
  | _, [] => []
  | off, b :: bs => Memory.write (romImage (off + 1) bs) (romCell (BitVec.ofNat 12 off)) b

/-- Attaching or replacing the cartridge, which triggers reset() (R522). A host operation, and the only caller of
reset in the block: no step resets the machine (log 5). -/
def attachCartridge (c : Cart) (image : Memory) (s : State) : State :=
  resetMachine { s with cart := c, mem := image }

/-- Attach a plain 4 KiB cartridge with these bytes (R522, R525). -/
def attachRom (bytes : List Byte) (s : State) : State := attachCartridge .rom (romImage 0 bytes) s

/-- Attach a cartridge of the host's, in a state of its own (R522, 20_memory.md R88). -/
def attachHost (n : Nat) (s : State) : State := attachCartridge (.host n) [] s

end Sys2Proof.Machine
end

