-- ==== Sys2Proof/Machine/Flags.lean ====
section
/-! DEFINITION. Flag computations and the arithmetic that gives them (43_arith_logic.md R205 to R207,
44_shift_rotate.md). Operands become naturals or integers, the exact result is computed, and it is narrowed at
the end. -/

namespace Sys2Proof.Machine

/-- Write C alone. -/
def State.setC (s : State) (c : Bool) : State := s.setP { s.p with c := c }

/-- The high nibble in place, v & $F0. -/
def highPart (v : Byte) : Byte := v &&& 0xF0

/-- The low nibble, v & $0F. -/
def lowPart (v : Byte) : Byte := v &&& 0x0F

/-- Add with D = 0 (R205). -/
def addBinary (a m : Byte) (c : Bool) : AluResult :=
  let t := a.toNat + m.toNat + c.toNat
  let r := BitVec.ofNat 8 t
  { r := r
    n := r.msb
    v := (~~~(a ^^^ m) &&& (a ^^^ r)).msb
    z := r == 0
    c := decide (256 ≤ t) }

/-- The low digit of a decimal sum, with its carry into bit 4 (R205). -/
def decimalAddLow (a m : Byte) (c : Bool) : Nat :=
  let al := (lowPart a).toNat + (lowPart m).toNat + c.toNat
  if 10 ≤ al then (al + 6) % 16 + 16 else al

/-- Add with D = 1, the NMOS decimal mode (R205). -/
def addDecimal (a m : Byte) (c : Bool) : AluResult :=
  let al := decimalAddLow a m c
  let s := (highPart a).toNat + (highPart m).toNat + al
  let ss : Int := (highPart a).toInt + (highPart m).toInt + al
  let s' := if 0xA0 ≤ s then s + 0x60 else s
  { r := BitVec.ofNat 8 s'
    n := s.testBit 7
    v := decide (ss < -128) || decide (127 < ss)
    z := BitVec.ofNat 8 (a.toNat + m.toNat + c.toNat) == 0
    c := decide (0x100 ≤ s') }

/-- Add(A, M, C, D) (R205). -/
def addWith (a m : Byte) (c d : Bool) : AluResult := if d then addDecimal a m c else addBinary a m c

/-- Sub with D = 0, and the flags of Sub in either mode (R206). -/
def subBinary (a m : Byte) (c : Bool) : AluResult :=
  let t := a.toNat + (~~~m).toNat + c.toNat
  let r := BitVec.ofNat 8 t
  { r := r
    n := r.msb
    v := ((a ^^^ m) &&& (a ^^^ r)).msb
    z := r == 0
    c := decide (256 ≤ t) }

/-- The result of Sub with D = 1, the NMOS decimal mode (R206). -/
def subDecimalResult (a m : Byte) (c : Bool) : Byte :=
  let al : Int := (lowPart a).toNat - (lowPart m).toNat + c.toNat - 1
  let al := if al < 0 then (al - 6) % 16 - 16 else al
  let s : Int := (highPart a).toNat - (highPart m).toNat + al
  let s := if s < 0 then s - 0x60 else s
  BitVec.ofInt 8 s

/-- Sub(A, M, C, D) (R206): the flags come from the binary difference in both modes. -/
def subWith (a m : Byte) (c d : Bool) : AluResult :=
  if d then { subBinary a m c with r := subDecimalResult a m c } else subBinary a m c

/-- Write an arithmetic result: A, N, V, Z, C (R210). -/
def State.setAlu (s : State) (res : AluResult) : State :=
  (s.setA res.r).setP { s.p with n := res.n, v := res.v, z := res.z, c := res.c }

/-- Compare(r, M) (R207). -/
def State.compare (s : State) (r m : Byte) : State :=
  let t := r.toNat + (~~~m).toNat + 1
  s.setP { s.p with n := (BitVec.ofNat 8 t).msb, z := r == m, c := decide (256 ≤ t) }

/-! ### Shifted values (44_shift_rotate.md R230 to R233) -/

/-- v << 1. -/
def shiftLeft (v : Byte) : Byte := v <<< 1

/-- v >> 1. -/
def shiftRight (v : Byte) : Byte := v >>> 1

/-- (v << 1) | c0. -/
def rotateLeft (v : Byte) (c0 : Bool) : Byte := (v <<< 1) ||| (BitVec.ofBool c0).setWidth 8

/-- (c0 << 7) | (v >> 1). -/
def rotateRight (v : Byte) (c0 : Bool) : Byte := BitVec.ofBool c0 ++ v.extractLsb' 1 7

end Sys2Proof.Machine
end

