-- ==== Sys2Proof/Machine/Operands.lean ====
section
/-! DEFINITION. Operand forms: the address phase of every addressing mode and the data phase of every effect
category, each bus access one cycle, dummy accesses included (40_addressing.md R141 to R164). Operand bytes are
fetched before, by the instruction frame (Machine/Step.lean). -/

namespace Sys2Proof.Machine

/-- An address with no index added after its base is known. -/
def directAddr (ea : Word) : EffAddr := ⟨ea, ea, false, false⟩

/-- base + index, with and without the carry into the high byte (R147, R150). -/
def indexedAddr (base : Word) (index : Byte) : EffAddr :=
  let ea := base + zext16 index
  { ea := ea
    uncarried := word (hiByte base) (loByte base + index)
    crossed := hiByte ea != hiByte base
    indexed := true }

/-- A zero-page indexed mode: dummy read of the base, then the sum within page 0 (R144, R145). -/
def zeroPageIndexed (b1 index : Byte) (s : State) : Res EffAddr :=
  andThen (dummyRead (zext16 b1) s) fun s => .next (directAddr (zext16 (b1 + index)), s)

/-- A pointer in page 0, low byte first, its second byte in page 0 too (R149, R150). -/
def zeroPagePointer (p : Byte) (s : State) : Res Word :=
  andThen (memRead (zext16 p) s) fun lo =>
  andThen (memRead (zext16 (p + 1)) lo.2) fun hi =>
  .next (word hi.1 lo.1, hi.2)

/-- The address phase (R143 to R150). -/
def addressPhase (m : MemMode) (s : State) : Res EffAddr :=
  match m with
  | .zeroPage b1 => .next (directAddr (zext16 b1), s)
  | .zeroPageX b1 => zeroPageIndexed b1 s.x s
  | .zeroPageY b1 => zeroPageIndexed b1 s.y s
  | .absolute addr => .next (directAddr addr, s)
  | .absoluteX addr => .next (indexedAddr addr s.x, s)
  | .absoluteY addr => .next (indexedAddr addr s.y, s)
  | .preIndexed b1 =>
    andThen (dummyRead (zext16 b1) s) fun s' =>
    andThen (zeroPagePointer (b1 + s.x) s') fun r => .next (directAddr r.1, r.2)
  | .postIndexed b1 =>
    andThen (zeroPagePointer b1 s) fun r => .next (indexedAddr r.1 s.y, r.2)

/-- The address phase, with the effective address noted in the record (10_state.md R40). -/
def resolve (m : MemMode) (s : State) : Res EffAddr :=
  andThen (addressPhase m s) fun r => .next (r.1, r.2.noteEa r.1.ea)

/-- The READ data phase (R155). -/
def readPhase (ad : EffAddr) (s : State) : Res Byte :=
  if ad.indexed then
    andThen (memRead ad.uncarried s) fun r =>
    if ad.crossed then memRead ad.ea (r.2.notePageCrossed true) else .next r
  else memRead ad.ea s

/-- The dummy read that an indexed WRITE or RMW makes whether or not the page is crossed (R158, R160). -/
def indexedDummy (ad : EffAddr) (s : State) : Out :=
  if ad.indexed then dummyRead ad.uncarried (s.notePageCrossed ad.crossed) else .next s

/-- The WRITE data phase (R158). -/
def writePhase (ad : EffAddr) (v : Byte) (s : State) : Out :=
  andThen (indexedDummy ad s) fun s => memWrite ad.ea v (s.noteOperand v)

/-- The RMW data phase with the operation f: read, write back, write f's value (R160). It answers the value
read. -/
def rmwPhase (ad : EffAddr) (f : Byte → Byte) (s : State) : Res Byte :=
  andThen (indexedDummy ad s) fun s =>
  andThen (memRead ad.ea s) fun r =>
  andThen (memWrite ad.ea r.1 (r.2.noteOperand r.1)) fun s =>
  andThen (memWrite ad.ea (f r.1) s) fun s => .next (r.1, s)

/-- The operand of a READ instruction (R142, R155). -/
def readSource (src : Source) (s : State) : Res Byte :=
  match src with
  | .immediate imm => .next (imm, s.noteOperand imm)
  | .memory m =>
    andThen (resolve m s) fun ad =>
    andThen (readPhase ad.1 ad.2) fun r => .next (r.1, r.2.noteOperand r.1)

/-- A READ instruction: the operation f on the operand (R155). -/
def readOp (src : Source) (f : Byte → State → State) (s : State) : Out :=
  andThen (readSource src s) fun r => .next (f r.1 r.2)

/-- A WRITE instruction storing v (R158). -/
def writeOp (m : MemMode) (v : Byte) (s : State) : Out :=
  andThen (resolve m s) fun ad => writePhase ad.1 v ad.2

/-- An RMW instruction: f gives the value written, g the registers and flags from the value read (R160). -/
def rmwOp (m : MemMode) (f : Byte → Byte) (g : Byte → State → State) (s : State) : Out :=
  andThen (resolve m s) fun ad =>
  andThen (rmwPhase ad.1 f ad.2) fun r => .next (g r.1 r.2)

/-- An implied instruction that works on registers: a dummy read of PC, then f (R141). -/
def impliedOp (f : State → State) (s : State) : Out :=
  andThen (dummyRead s.pc s) fun s => .next (f s)

end Sys2Proof.Machine
end

