-- ==== Sys2Proof/Machine/ArithLogic.lean ====
section
/-! DEFINITION. Arithmetic, logic, compare, increment and decrement (43_arith_logic.md R210 to R224). -/

namespace Sys2Proof.Machine

/-- ADC (R210). -/
def opAdc (src : Source) (s : State) : Out :=
  readOp src (fun m s => s.setAlu (addWith s.a m s.p.c s.p.d)) s

/-- SBC (R211). -/
def opSbc (src : Source) (s : State) : Out :=
  readOp src (fun m s => s.setAlu (subWith s.a m s.p.c s.p.d)) s

/-- AND (R212). -/
def opAnd (src : Source) (s : State) : Out :=
  readOp src (fun m s => (s.setA (s.a &&& m)).setNZ (s.a &&& m)) s

/-- ORA (R213). -/
def opOra (src : Source) (s : State) : Out :=
  readOp src (fun m s => (s.setA (s.a ||| m)).setNZ (s.a ||| m)) s

/-- EOR (R214). -/
def opEor (src : Source) (s : State) : Out :=
  readOp src (fun m s => (s.setA (s.a ^^^ m)).setNZ (s.a ^^^ m)) s

/-- The flags of BIT (R215): N and V are bits 7 and 6 of the operand, Z tests A & M. -/
def State.testBits (s : State) (m : Byte) : State :=
  s.setP { s.p with n := m.getLsbD 7, v := m.getLsbD 6, z := (s.a &&& m) == 0 }

/-- BIT (R215). -/
def opBit (src : Source) (s : State) : Out := readOp src (fun m s => s.testBits m) s

/-- CMP (R216). -/
def opCmp (src : Source) (s : State) : Out := readOp src (fun m s => s.compare s.a m) s

/-- CPX (R217). -/
def opCpx (src : Source) (s : State) : Out := readOp src (fun m s => s.compare s.x m) s

/-- CPY (R218). -/
def opCpy (src : Source) (s : State) : Out := readOp src (fun m s => s.compare s.y m) s

/-- INC (R219). -/
def opInc (m : MemMode) (s : State) : Out := rmwOp m (fun v => v + 1) (fun v s => s.setNZ (v + 1)) s

/-- DEC (R220). -/
def opDec (m : MemMode) (s : State) : Out := rmwOp m (fun v => v - 1) (fun v s => s.setNZ (v - 1)) s

/-- INX (R221). -/
def opInx (s : State) : Out := impliedOp (fun s => (s.setX (s.x + 1)).setNZ (s.x + 1)) s

/-- INY (R222). -/
def opIny (s : State) : Out := impliedOp (fun s => (s.setY (s.y + 1)).setNZ (s.y + 1)) s

/-- DEX (R223). -/
def opDex (s : State) : Out := impliedOp (fun s => (s.setX (s.x - 1)).setNZ (s.x - 1)) s

/-- DEY (R224). -/
def opDey (s : State) : Out := impliedOp (fun s => (s.setY (s.y - 1)).setNZ (s.y - 1)) s

/-! ### One meaning for each row of the opcode table -/

/-- $61 ADC ($nn,X) (R210). -/
def execAdcIzX (b1 : Byte) (s : State) : Out := opAdc (.memory (.preIndexed b1)) s

/-- $65 ADC $nn (R210). -/
def execAdcZp (b1 : Byte) (s : State) : Out := opAdc (.memory (.zeroPage b1)) s

/-- $69 ADC #$nn (R210). -/
def execAdcImm (imm : Byte) (s : State) : Out := opAdc (.immediate imm) s

/-- $6D ADC $nnnn (R210). -/
def execAdcAbs (addr : Word) (s : State) : Out := opAdc (.memory (.absolute addr)) s

/-- $71 ADC ($nn),Y (R210). -/
def execAdcIzY (b1 : Byte) (s : State) : Out := opAdc (.memory (.postIndexed b1)) s

/-- $75 ADC $nn,X (R210). -/
def execAdcZpX (b1 : Byte) (s : State) : Out := opAdc (.memory (.zeroPageX b1)) s

/-- $79 ADC $nnnn,Y (R210). -/
def execAdcAbsY (addr : Word) (s : State) : Out := opAdc (.memory (.absoluteY addr)) s

/-- $7D ADC $nnnn,X (R210). -/
def execAdcAbsX (addr : Word) (s : State) : Out := opAdc (.memory (.absoluteX addr)) s

/-- $E1 SBC ($nn,X) (R211). -/
def execSbcIzX (b1 : Byte) (s : State) : Out := opSbc (.memory (.preIndexed b1)) s

/-- $E5 SBC $nn (R211). -/
def execSbcZp (b1 : Byte) (s : State) : Out := opSbc (.memory (.zeroPage b1)) s

/-- $E9 SBC #$nn (R211). -/
def execSbcImm (imm : Byte) (s : State) : Out := opSbc (.immediate imm) s

/-- $ED SBC $nnnn (R211). -/
def execSbcAbs (addr : Word) (s : State) : Out := opSbc (.memory (.absolute addr)) s

/-- $F1 SBC ($nn),Y (R211). -/
def execSbcIzY (b1 : Byte) (s : State) : Out := opSbc (.memory (.postIndexed b1)) s

/-- $F5 SBC $nn,X (R211). -/
def execSbcZpX (b1 : Byte) (s : State) : Out := opSbc (.memory (.zeroPageX b1)) s

/-- $F9 SBC $nnnn,Y (R211). -/
def execSbcAbsY (addr : Word) (s : State) : Out := opSbc (.memory (.absoluteY addr)) s

/-- $FD SBC $nnnn,X (R211). -/
def execSbcAbsX (addr : Word) (s : State) : Out := opSbc (.memory (.absoluteX addr)) s

/-- $21 AND ($nn,X) (R212). -/
def execAndIzX (b1 : Byte) (s : State) : Out := opAnd (.memory (.preIndexed b1)) s

/-- $25 AND $nn (R212). -/
def execAndZp (b1 : Byte) (s : State) : Out := opAnd (.memory (.zeroPage b1)) s

/-- $29 AND #$nn (R212). -/
def execAndImm (imm : Byte) (s : State) : Out := opAnd (.immediate imm) s

/-- $2D AND $nnnn (R212). -/
def execAndAbs (addr : Word) (s : State) : Out := opAnd (.memory (.absolute addr)) s

/-- $31 AND ($nn),Y (R212). -/
def execAndIzY (b1 : Byte) (s : State) : Out := opAnd (.memory (.postIndexed b1)) s

/-- $35 AND $nn,X (R212). -/
def execAndZpX (b1 : Byte) (s : State) : Out := opAnd (.memory (.zeroPageX b1)) s

/-- $39 AND $nnnn,Y (R212). -/
def execAndAbsY (addr : Word) (s : State) : Out := opAnd (.memory (.absoluteY addr)) s

/-- $3D AND $nnnn,X (R212). -/
def execAndAbsX (addr : Word) (s : State) : Out := opAnd (.memory (.absoluteX addr)) s

/-- $01 ORA ($nn,X) (R213). -/
def execOraIzX (b1 : Byte) (s : State) : Out := opOra (.memory (.preIndexed b1)) s

/-- $05 ORA $nn (R213). -/
def execOraZp (b1 : Byte) (s : State) : Out := opOra (.memory (.zeroPage b1)) s

/-- $09 ORA #$nn (R213). -/
def execOraImm (imm : Byte) (s : State) : Out := opOra (.immediate imm) s

/-- $0D ORA $nnnn (R213). -/
def execOraAbs (addr : Word) (s : State) : Out := opOra (.memory (.absolute addr)) s

/-- $11 ORA ($nn),Y (R213). -/
def execOraIzY (b1 : Byte) (s : State) : Out := opOra (.memory (.postIndexed b1)) s

/-- $15 ORA $nn,X (R213). -/
def execOraZpX (b1 : Byte) (s : State) : Out := opOra (.memory (.zeroPageX b1)) s

/-- $19 ORA $nnnn,Y (R213). -/
def execOraAbsY (addr : Word) (s : State) : Out := opOra (.memory (.absoluteY addr)) s

/-- $1D ORA $nnnn,X (R213). -/
def execOraAbsX (addr : Word) (s : State) : Out := opOra (.memory (.absoluteX addr)) s

/-- $41 EOR ($nn,X) (R214). -/
def execEorIzX (b1 : Byte) (s : State) : Out := opEor (.memory (.preIndexed b1)) s

/-- $45 EOR $nn (R214). -/
def execEorZp (b1 : Byte) (s : State) : Out := opEor (.memory (.zeroPage b1)) s

/-- $49 EOR #$nn (R214). -/
def execEorImm (imm : Byte) (s : State) : Out := opEor (.immediate imm) s

/-- $4D EOR $nnnn (R214). -/
def execEorAbs (addr : Word) (s : State) : Out := opEor (.memory (.absolute addr)) s

/-- $51 EOR ($nn),Y (R214). -/
def execEorIzY (b1 : Byte) (s : State) : Out := opEor (.memory (.postIndexed b1)) s

/-- $55 EOR $nn,X (R214). -/
def execEorZpX (b1 : Byte) (s : State) : Out := opEor (.memory (.zeroPageX b1)) s

/-- $59 EOR $nnnn,Y (R214). -/
def execEorAbsY (addr : Word) (s : State) : Out := opEor (.memory (.absoluteY addr)) s

/-- $5D EOR $nnnn,X (R214). -/
def execEorAbsX (addr : Word) (s : State) : Out := opEor (.memory (.absoluteX addr)) s

/-- $24 BIT $nn (R215). -/
def execBitZp (b1 : Byte) (s : State) : Out := opBit (.memory (.zeroPage b1)) s

/-- $2C BIT $nnnn (R215). -/
def execBitAbs (addr : Word) (s : State) : Out := opBit (.memory (.absolute addr)) s

/-- $C1 CMP ($nn,X) (R216). -/
def execCmpIzX (b1 : Byte) (s : State) : Out := opCmp (.memory (.preIndexed b1)) s

/-- $C5 CMP $nn (R216). -/
def execCmpZp (b1 : Byte) (s : State) : Out := opCmp (.memory (.zeroPage b1)) s

/-- $C9 CMP #$nn (R216). -/
def execCmpImm (imm : Byte) (s : State) : Out := opCmp (.immediate imm) s

/-- $CD CMP $nnnn (R216). -/
def execCmpAbs (addr : Word) (s : State) : Out := opCmp (.memory (.absolute addr)) s

/-- $D1 CMP ($nn),Y (R216). -/
def execCmpIzY (b1 : Byte) (s : State) : Out := opCmp (.memory (.postIndexed b1)) s

/-- $D5 CMP $nn,X (R216). -/
def execCmpZpX (b1 : Byte) (s : State) : Out := opCmp (.memory (.zeroPageX b1)) s

/-- $D9 CMP $nnnn,Y (R216). -/
def execCmpAbsY (addr : Word) (s : State) : Out := opCmp (.memory (.absoluteY addr)) s

/-- $DD CMP $nnnn,X (R216). -/
def execCmpAbsX (addr : Word) (s : State) : Out := opCmp (.memory (.absoluteX addr)) s

/-- $E0 CPX #$nn (R217). -/
def execCpxImm (imm : Byte) (s : State) : Out := opCpx (.immediate imm) s

/-- $E4 CPX $nn (R217). -/
def execCpxZp (b1 : Byte) (s : State) : Out := opCpx (.memory (.zeroPage b1)) s

/-- $EC CPX $nnnn (R217). -/
def execCpxAbs (addr : Word) (s : State) : Out := opCpx (.memory (.absolute addr)) s

/-- $C0 CPY #$nn (R218). -/
def execCpyImm (imm : Byte) (s : State) : Out := opCpy (.immediate imm) s

/-- $C4 CPY $nn (R218). -/
def execCpyZp (b1 : Byte) (s : State) : Out := opCpy (.memory (.zeroPage b1)) s

/-- $CC CPY $nnnn (R218). -/
def execCpyAbs (addr : Word) (s : State) : Out := opCpy (.memory (.absolute addr)) s

/-- $E6 INC $nn (R219). -/
def execIncZp (b1 : Byte) (s : State) : Out := opInc (.zeroPage b1) s

/-- $EE INC $nnnn (R219). -/
def execIncAbs (addr : Word) (s : State) : Out := opInc (.absolute addr) s

/-- $F6 INC $nn,X (R219). -/
def execIncZpX (b1 : Byte) (s : State) : Out := opInc (.zeroPageX b1) s

/-- $FE INC $nnnn,X (R219). -/
def execIncAbsX (addr : Word) (s : State) : Out := opInc (.absoluteX addr) s

/-- $C6 DEC $nn (R220). -/
def execDecZp (b1 : Byte) (s : State) : Out := opDec (.zeroPage b1) s

/-- $CE DEC $nnnn (R220). -/
def execDecAbs (addr : Word) (s : State) : Out := opDec (.absolute addr) s

/-- $D6 DEC $nn,X (R220). -/
def execDecZpX (b1 : Byte) (s : State) : Out := opDec (.zeroPageX b1) s

/-- $DE DEC $nnnn,X (R220). -/
def execDecAbsX (addr : Word) (s : State) : Out := opDec (.absoluteX addr) s

/-- $E8 INX (R221). -/
def execInx (s : State) : Out := opInx s

/-- $C8 INY (R222). -/
def execIny (s : State) : Out := opIny s

/-- $CA DEX (R223). -/
def execDex (s : State) : Out := opDex s

/-- $88 DEY (R224). -/
def execDey (s : State) : Out := opDey s

end Sys2Proof.Machine
end

