-- ==== Sys2Proof/Machine/Control.lean ====
section
/-! DEFINITION. Branches, jumps, subroutines, BRK and RTI (46_control.md R250 to R263). -/

namespace Sys2Proof.Machine

/-- The branch sequence after the offset is fetched (R250). -/
def opBranch (cond : Bool) (off : Byte) (s : State) : Out :=
  if cond then
    andThen (dummyRead s.pc s) fun s =>
    if hiByte (s.pc + sext16 off) = hiByte s.pc then .next (s.setPc (s.pc + sext16 off))
    else
      andThen (dummyRead (word (hiByte s.pc) (loByte (s.pc + sext16 off))) s) fun s =>
      .next ((s.setPc (s.pc + sext16 off)).notePageCrossed true)
  else .next s

/-- JMP absolute (R259), both operand bytes fetched. -/
def opJmp (target : Word) (s : State) : Out := .next ((s.noteEa target).setPc target)

/-- The second byte of a jump pointer: in the same page, whatever the low byte (R151). -/
def pointerHigh (ptr : Word) : Word := word (hiByte ptr) (loByte ptr + 1)

/-- JMP indirect (R151, R259), with the page-wrap bug reported. -/
def opJmpIndirect (ptr : Word) (s : State) : Out :=
  andThen (memRead ptr s) fun lo =>
  andThen (memRead (pointerHigh ptr) lo.2) fun hi =>
  .next ((hi.2.noteBug (if loByte ptr = 0xFF then .jmpIndirectPageWrap else .none)).setPc (word hi.1 lo.1))

/-- JSR (R260) from cycle 3. Its high address byte is read from the bus in cycle 6, after the pushes, so the
high byte of the decoded target is not used (log 11). -/
def opJsr (target : Word) (s : State) : Out :=
  andThen (dummyRead (stackAddr s) s) fun s =>
  andThen (push (hiByte s.pc) s) fun s =>
  andThen (push (loByte s.pc) s) fun s =>
  andThen (memRead s.pc s) fun adh =>
  .next ((adh.2.noteEa (word adh.1 (loByte target))).setPc (word adh.1 (loByte target)))

/-- RTS (R261). -/
def opRts (s : State) : Out :=
  andThen (dummyRead s.pc s) fun s =>
  andThen (dummyRead (stackAddr s) s) fun s =>
  andThen (pull s) fun lo =>
  andThen (pull lo.2) fun hi =>
  andThen (dummyRead (word hi.1 lo.1) hi.2) fun s =>
  .next (s.setPc (word hi.1 lo.1)).incPc

/-- BRK (R262): the padding byte is read and skipped, then the interrupt sequence with B' = 1. -/
def opBrk (s : State) : Out :=
  andThen (dummyRead s.pc s) fun s => takeInterrupt irqVector true s.incPc

/-- RTI (R263). -/
def opRti (s : State) : Out :=
  andThen (dummyRead s.pc s) fun s =>
  andThen (dummyRead (stackAddr s) s) fun s =>
  returnFromInterrupt s

/-! ### One meaning for each row of the opcode table -/

/-- $90 BCC label (R251). -/
def execBcc (off : Byte) (s : State) : Out := opBranch (!s.p.c) off s

/-- $B0 BCS label (R252). -/
def execBcs (off : Byte) (s : State) : Out := opBranch s.p.c off s

/-- $F0 BEQ label (R253). -/
def execBeq (off : Byte) (s : State) : Out := opBranch s.p.z off s

/-- $D0 BNE label (R254). -/
def execBne (off : Byte) (s : State) : Out := opBranch (!s.p.z) off s

/-- $30 BMI label (R255). -/
def execBmi (off : Byte) (s : State) : Out := opBranch s.p.n off s

/-- $10 BPL label (R256). -/
def execBpl (off : Byte) (s : State) : Out := opBranch (!s.p.n) off s

/-- $50 BVC label (R257). -/
def execBvc (off : Byte) (s : State) : Out := opBranch (!s.p.v) off s

/-- $70 BVS label (R258). -/
def execBvs (off : Byte) (s : State) : Out := opBranch s.p.v off s

/-- $4C JMP $nnnn (R259). -/
def execJmpAbs (target : Word) (s : State) : Out := opJmp target s

/-- $6C JMP ($nnnn) (R259). -/
def execJmpInd (ptr : Word) (s : State) : Out := opJmpIndirect ptr s

/-- $20 JSR $nnnn (R260). -/
def execJsr (target : Word) (s : State) : Out := opJsr target s

/-- $60 RTS (R261). -/
def execRts (s : State) : Out := opRts s

/-- $00 BRK (R262). -/
def execBrk (s : State) : Out := opBrk s

/-- $40 RTI (R263). -/
def execRti (s : State) : Out := opRti s

end Sys2Proof.Machine
end

