-- ==== Sys2Proof/Machine/FlagsNop.lean ====
section
/-! DEFINITION. Flag instructions (45_flags_nop.md R240 to R246) and NOP in all its forms (R247, 47_undocumented.md R285). -/

namespace Sys2Proof.Machine

/-- CLC (R240). -/
def opClc (s : State) : Out := impliedOp (fun s => s.setP { s.p with c := false }) s

/-- SEC (R241). -/
def opSec (s : State) : Out := impliedOp (fun s => s.setP { s.p with c := true }) s

/-- CLI (R242). -/
def opCli (s : State) : Out := impliedOp (fun s => s.setP { s.p with i := false }) s

/-- SEI (R243). -/
def opSei (s : State) : Out := impliedOp (fun s => s.setP { s.p with i := true }) s

/-- CLD (R244). -/
def opCld (s : State) : Out := impliedOp (fun s => s.setP { s.p with d := false }) s

/-- SED (R245). -/
def opSed (s : State) : Out := impliedOp (fun s => s.setP { s.p with d := true }) s

/-- CLV (R246). -/
def opClv (s : State) : Out := impliedOp (fun s => s.setP { s.p with v := false }) s

/-- A NOP with an operand: the accesses of its mode and nothing else (R285). -/
def opNop (src : Source) (s : State) : Out := readOp src (fun _ s => s) s

/-! ### One meaning for each row of the opcode table -/

/-- $18 CLC (R240). -/
def execClc (s : State) : Out := opClc s

/-- $38 SEC (R241). -/
def execSec (s : State) : Out := opSec s

/-- $58 CLI (R242). -/
def execCli (s : State) : Out := opCli s

/-- $78 SEI (R243). -/
def execSei (s : State) : Out := opSei s

/-- $D8 CLD (R244). -/
def execCld (s : State) : Out := opCld s

/-- $F8 SED (R245). -/
def execSed (s : State) : Out := opSed s

/-- $B8 CLV (R246). -/
def execClv (s : State) : Out := opClv s

/-- $04 NOP $nn (R285). -/
def execNopZp04 (b1 : Byte) (s : State) : Out := opNop (.memory (.zeroPage b1)) s

/-- $0C NOP $nnnn (R285). -/
def execNopAbs (addr : Word) (s : State) : Out := opNop (.memory (.absolute addr)) s

/-- $14 NOP $nn,X (R285). -/
def execNopZpX14 (b1 : Byte) (s : State) : Out := opNop (.memory (.zeroPageX b1)) s

/-- $1A NOP (R285). -/
def execNop1A (s : State) : Out := impliedOp id s

/-- $1C NOP $nnnn,X (R285). -/
def execNopAbsX1C (addr : Word) (s : State) : Out := opNop (.memory (.absoluteX addr)) s

/-- $34 NOP $nn,X (R285). -/
def execNopZpX34 (b1 : Byte) (s : State) : Out := opNop (.memory (.zeroPageX b1)) s

/-- $3A NOP (R285). -/
def execNop3A (s : State) : Out := impliedOp id s

/-- $3C NOP $nnnn,X (R285). -/
def execNopAbsX3C (addr : Word) (s : State) : Out := opNop (.memory (.absoluteX addr)) s

/-- $44 NOP $nn (R285). -/
def execNopZp44 (b1 : Byte) (s : State) : Out := opNop (.memory (.zeroPage b1)) s

/-- $54 NOP $nn,X (R285). -/
def execNopZpX54 (b1 : Byte) (s : State) : Out := opNop (.memory (.zeroPageX b1)) s

/-- $5A NOP (R285). -/
def execNop5A (s : State) : Out := impliedOp id s

/-- $5C NOP $nnnn,X (R285). -/
def execNopAbsX5C (addr : Word) (s : State) : Out := opNop (.memory (.absoluteX addr)) s

/-- $64 NOP $nn (R285). -/
def execNopZp64 (b1 : Byte) (s : State) : Out := opNop (.memory (.zeroPage b1)) s

/-- $74 NOP $nn,X (R285). -/
def execNopZpX74 (b1 : Byte) (s : State) : Out := opNop (.memory (.zeroPageX b1)) s

/-- $7A NOP (R285). -/
def execNop7A (s : State) : Out := impliedOp id s

/-- $7C NOP $nnnn,X (R285). -/
def execNopAbsX7C (addr : Word) (s : State) : Out := opNop (.memory (.absoluteX addr)) s

/-- $80 NOP #$nn (R285). -/
def execNopImm80 (imm : Byte) (s : State) : Out := opNop (.immediate imm) s

/-- $82 NOP #$nn (R285). -/
def execNopImm82 (imm : Byte) (s : State) : Out := opNop (.immediate imm) s

/-- $89 NOP #$nn (R285). -/
def execNopImm89 (imm : Byte) (s : State) : Out := opNop (.immediate imm) s

/-- $C2 NOP #$nn (R285). -/
def execNopImmC2 (imm : Byte) (s : State) : Out := opNop (.immediate imm) s

/-- $D4 NOP $nn,X (R285). -/
def execNopZpXD4 (b1 : Byte) (s : State) : Out := opNop (.memory (.zeroPageX b1)) s

/-- $DA NOP (R285). -/
def execNopDA (s : State) : Out := impliedOp id s

/-- $DC NOP $nnnn,X (R285). -/
def execNopAbsXDC (addr : Word) (s : State) : Out := opNop (.memory (.absoluteX addr)) s

/-- $E2 NOP #$nn (R285). -/
def execNopImmE2 (imm : Byte) (s : State) : Out := opNop (.immediate imm) s

/-- $EA NOP (R247). -/
def execNop (s : State) : Out := impliedOp id s

/-- $F4 NOP $nn,X (R285). -/
def execNopZpXF4 (b1 : Byte) (s : State) : Out := opNop (.memory (.zeroPageX b1)) s

/-- $FA NOP (R285). -/
def execNopFA (s : State) : Out := impliedOp id s

/-- $FC NOP $nnnn,X (R285). -/
def execNopAbsXFC (addr : Word) (s : State) : Out := opNop (.memory (.absoluteX addr)) s

end Sys2Proof.Machine
end

