-- ==== Sys2Proof/Machine/Invalid.lean ====
section
/-! DEFINITION. The 41 opcodes that raise InvalidOpcode (30_encoding.md R118, 47_undocumented.md R286, 60_exceptions.md R301). -/

namespace Sys2Proof.Machine

/-! ### One meaning for each row of the opcode table -/

/-- $02 KIL on the NMOS part (R286). -/
def execInvalid02 (s : State) : Out := invalidOpcode 0x02 s

/-- $12 KIL on the NMOS part (R286). -/
def execInvalid12 (s : State) : Out := invalidOpcode 0x12 s

/-- $22 KIL on the NMOS part (R286). -/
def execInvalid22 (s : State) : Out := invalidOpcode 0x22 s

/-- $23 RLA on the NMOS part (R286). -/
def execInvalid23 (s : State) : Out := invalidOpcode 0x23 s

/-- $27 RLA on the NMOS part (R286). -/
def execInvalid27 (s : State) : Out := invalidOpcode 0x27 s

/-- $2F RLA on the NMOS part (R286). -/
def execInvalid2F (s : State) : Out := invalidOpcode 0x2F s

/-- $32 KIL on the NMOS part (R286). -/
def execInvalid32 (s : State) : Out := invalidOpcode 0x32 s

/-- $33 RLA on the NMOS part (R286). -/
def execInvalid33 (s : State) : Out := invalidOpcode 0x33 s

/-- $37 RLA on the NMOS part (R286). -/
def execInvalid37 (s : State) : Out := invalidOpcode 0x37 s

/-- $3B RLA on the NMOS part (R286). -/
def execInvalid3B (s : State) : Out := invalidOpcode 0x3B s

/-- $3F RLA on the NMOS part (R286). -/
def execInvalid3F (s : State) : Out := invalidOpcode 0x3F s

/-- $42 KIL on the NMOS part (R286). -/
def execInvalid42 (s : State) : Out := invalidOpcode 0x42 s

/-- $43 SRE on the NMOS part (R286). -/
def execInvalid43 (s : State) : Out := invalidOpcode 0x43 s

/-- $47 SRE on the NMOS part (R286). -/
def execInvalid47 (s : State) : Out := invalidOpcode 0x47 s

/-- $4F SRE on the NMOS part (R286). -/
def execInvalid4F (s : State) : Out := invalidOpcode 0x4F s

/-- $52 KIL on the NMOS part (R286). -/
def execInvalid52 (s : State) : Out := invalidOpcode 0x52 s

/-- $53 SRE on the NMOS part (R286). -/
def execInvalid53 (s : State) : Out := invalidOpcode 0x53 s

/-- $57 SRE on the NMOS part (R286). -/
def execInvalid57 (s : State) : Out := invalidOpcode 0x57 s

/-- $5B SRE on the NMOS part (R286). -/
def execInvalid5B (s : State) : Out := invalidOpcode 0x5B s

/-- $5F SRE on the NMOS part (R286). -/
def execInvalid5F (s : State) : Out := invalidOpcode 0x5F s

/-- $62 KIL on the NMOS part (R286). -/
def execInvalid62 (s : State) : Out := invalidOpcode 0x62 s

/-- $63 RRA on the NMOS part (R286). -/
def execInvalid63 (s : State) : Out := invalidOpcode 0x63 s

/-- $67 RRA on the NMOS part (R286). -/
def execInvalid67 (s : State) : Out := invalidOpcode 0x67 s

/-- $6F RRA on the NMOS part (R286). -/
def execInvalid6F (s : State) : Out := invalidOpcode 0x6F s

/-- $72 KIL on the NMOS part (R286). -/
def execInvalid72 (s : State) : Out := invalidOpcode 0x72 s

/-- $73 RRA on the NMOS part (R286). -/
def execInvalid73 (s : State) : Out := invalidOpcode 0x73 s

/-- $77 RRA on the NMOS part (R286). -/
def execInvalid77 (s : State) : Out := invalidOpcode 0x77 s

/-- $7B RRA on the NMOS part (R286). -/
def execInvalid7B (s : State) : Out := invalidOpcode 0x7B s

/-- $7F RRA on the NMOS part (R286). -/
def execInvalid7F (s : State) : Out := invalidOpcode 0x7F s

/-- $92 KIL on the NMOS part (R286). -/
def execInvalid92 (s : State) : Out := invalidOpcode 0x92 s

/-- $93 SHA on the NMOS part (R286). -/
def execInvalid93 (s : State) : Out := invalidOpcode 0x93 s

/-- $9B TAS on the NMOS part (R286). -/
def execInvalid9B (s : State) : Out := invalidOpcode 0x9B s

/-- $9C SHY on the NMOS part (R286). -/
def execInvalid9C (s : State) : Out := invalidOpcode 0x9C s

/-- $9E SHX on the NMOS part (R286). -/
def execInvalid9E (s : State) : Out := invalidOpcode 0x9E s

/-- $9F SHA on the NMOS part (R286). -/
def execInvalid9F (s : State) : Out := invalidOpcode 0x9F s

/-- $AB LXA on the NMOS part (R286). -/
def execInvalidAB (s : State) : Out := invalidOpcode 0xAB s

/-- $B2 KIL on the NMOS part (R286). -/
def execInvalidB2 (s : State) : Out := invalidOpcode 0xB2 s

/-- $BB LAS on the NMOS part (R286). -/
def execInvalidBB (s : State) : Out := invalidOpcode 0xBB s

/-- $D2 KIL on the NMOS part (R286). -/
def execInvalidD2 (s : State) : Out := invalidOpcode 0xD2 s

/-- $EB USBC on the NMOS part (R286). -/
def execInvalidEB (s : State) : Out := invalidOpcode 0xEB s

/-- $F2 KIL on the NMOS part (R286). -/
def execInvalidF2 (s : State) : Out := invalidOpcode 0xF2 s

end Sys2Proof.Machine
end

