-- ==== Sys2Proof/Machine/LoadStore.lean ====
section
/-! DEFINITION. Loads and stores (41_load_store.md R180 to R185): one operation a mnemonic, one meaning a row. -/

namespace Sys2Proof.Machine

/-- LDA (R180): A <- M; N, Z from M. -/
def opLda (src : Source) (s : State) : Out := readOp src (fun m s => (s.setA m).setNZ m) s

/-- LDX (R181): X <- M; N, Z from M. -/
def opLdx (src : Source) (s : State) : Out := readOp src (fun m s => (s.setX m).setNZ m) s

/-- LDY (R182): Y <- M; N, Z from M. -/
def opLdy (src : Source) (s : State) : Out := readOp src (fun m s => (s.setY m).setNZ m) s

/-- STA (R183): store A; no flags. -/
def opSta (m : MemMode) (s : State) : Out := writeOp m s.a s

/-- STX (R184): store X; no flags. -/
def opStx (m : MemMode) (s : State) : Out := writeOp m s.x s

/-- STY (R185): store Y; no flags. -/
def opSty (m : MemMode) (s : State) : Out := writeOp m s.y s

/-! ### One meaning for each row of the opcode table -/

/-- $A1 LDA ($nn,X) (R180). -/
def execLdaIzX (b1 : Byte) (s : State) : Out := opLda (.memory (.preIndexed b1)) s

/-- $A5 LDA $nn (R180). -/
def execLdaZp (b1 : Byte) (s : State) : Out := opLda (.memory (.zeroPage b1)) s

/-- $A9 LDA #$nn (R180). -/
def execLdaImm (imm : Byte) (s : State) : Out := opLda (.immediate imm) s

/-- $AD LDA $nnnn (R180). -/
def execLdaAbs (addr : Word) (s : State) : Out := opLda (.memory (.absolute addr)) s

/-- $B1 LDA ($nn),Y (R180). -/
def execLdaIzY (b1 : Byte) (s : State) : Out := opLda (.memory (.postIndexed b1)) s

/-- $B5 LDA $nn,X (R180). -/
def execLdaZpX (b1 : Byte) (s : State) : Out := opLda (.memory (.zeroPageX b1)) s

/-- $B9 LDA $nnnn,Y (R180). -/
def execLdaAbsY (addr : Word) (s : State) : Out := opLda (.memory (.absoluteY addr)) s

/-- $BD LDA $nnnn,X (R180). -/
def execLdaAbsX (addr : Word) (s : State) : Out := opLda (.memory (.absoluteX addr)) s

/-- $A2 LDX #$nn (R181). -/
def execLdxImm (imm : Byte) (s : State) : Out := opLdx (.immediate imm) s

/-- $A6 LDX $nn (R181). -/
def execLdxZp (b1 : Byte) (s : State) : Out := opLdx (.memory (.zeroPage b1)) s

/-- $AE LDX $nnnn (R181). -/
def execLdxAbs (addr : Word) (s : State) : Out := opLdx (.memory (.absolute addr)) s

/-- $B6 LDX $nn,Y (R181). -/
def execLdxZpY (b1 : Byte) (s : State) : Out := opLdx (.memory (.zeroPageY b1)) s

/-- $BE LDX $nnnn,Y (R181). -/
def execLdxAbsY (addr : Word) (s : State) : Out := opLdx (.memory (.absoluteY addr)) s

/-- $A0 LDY #$nn (R182). -/
def execLdyImm (imm : Byte) (s : State) : Out := opLdy (.immediate imm) s

/-- $A4 LDY $nn (R182). -/
def execLdyZp (b1 : Byte) (s : State) : Out := opLdy (.memory (.zeroPage b1)) s

/-- $AC LDY $nnnn (R182). -/
def execLdyAbs (addr : Word) (s : State) : Out := opLdy (.memory (.absolute addr)) s

/-- $B4 LDY $nn,X (R182). -/
def execLdyZpX (b1 : Byte) (s : State) : Out := opLdy (.memory (.zeroPageX b1)) s

/-- $BC LDY $nnnn,X (R182). -/
def execLdyAbsX (addr : Word) (s : State) : Out := opLdy (.memory (.absoluteX addr)) s

/-- $81 STA ($nn,X) (R183). -/
def execStaIzX (b1 : Byte) (s : State) : Out := opSta (.preIndexed b1) s

/-- $85 STA $nn (R183). -/
def execStaZp (b1 : Byte) (s : State) : Out := opSta (.zeroPage b1) s

/-- $8D STA $nnnn (R183). -/
def execStaAbs (addr : Word) (s : State) : Out := opSta (.absolute addr) s

/-- $91 STA ($nn),Y (R183). -/
def execStaIzY (b1 : Byte) (s : State) : Out := opSta (.postIndexed b1) s

/-- $95 STA $nn,X (R183). -/
def execStaZpX (b1 : Byte) (s : State) : Out := opSta (.zeroPageX b1) s

/-- $99 STA $nnnn,Y (R183). -/
def execStaAbsY (addr : Word) (s : State) : Out := opSta (.absoluteY addr) s

/-- $9D STA $nnnn,X (R183). -/
def execStaAbsX (addr : Word) (s : State) : Out := opSta (.absoluteX addr) s

/-- $86 STX $nn (R184). -/
def execStxZp (b1 : Byte) (s : State) : Out := opStx (.zeroPage b1) s

/-- $8E STX $nnnn (R184). -/
def execStxAbs (addr : Word) (s : State) : Out := opStx (.absolute addr) s

/-- $96 STX $nn,Y (R184). -/
def execStxZpY (b1 : Byte) (s : State) : Out := opStx (.zeroPageY b1) s

/-- $84 STY $nn (R185). -/
def execStyZp (b1 : Byte) (s : State) : Out := opSty (.zeroPage b1) s

/-- $8C STY $nnnn (R185). -/
def execStyAbs (addr : Word) (s : State) : Out := opSty (.absolute addr) s

/-- $94 STY $nn,X (R185). -/
def execStyZpX (b1 : Byte) (s : State) : Out := opSty (.zeroPageX b1) s

end Sys2Proof.Machine
end

