-- ==== Sys2Proof/Machine/ShiftRotate.lean ====
section
/-! DEFINITION. Shifts and rotates (44_shift_rotate.md R230 to R233): an accumulator form and memory forms. -/

namespace Sys2Proof.Machine

/-- The flags of a shift: C as given, N and Z from the shifted value. -/
def shiftFlags (c : Bool) (v' : Byte) (s : State) : State := (s.setC c).setNZ v'

/-- ASL of memory (R230): C from bit 7. -/
def opAsl (m : MemMode) (s : State) : Out :=
  rmwOp m (fun v => shiftLeft v) (fun v s => shiftFlags v.msb (shiftLeft v) s) s

/-- ASL of A (R230). -/
def opAslAcc (s : State) : Out :=
  impliedOp (fun s => (shiftFlags s.a.msb (shiftLeft s.a) s).setA (shiftLeft s.a)) s

/-- LSR of memory (R231): C from bit 0. -/
def opLsr (m : MemMode) (s : State) : Out :=
  rmwOp m (fun v => shiftRight v) (fun v s => shiftFlags (v.getLsbD 0) (shiftRight v) s) s

/-- LSR of A (R231). -/
def opLsrAcc (s : State) : Out :=
  impliedOp (fun s => (shiftFlags (s.a.getLsbD 0) (shiftRight s.a) s).setA (shiftRight s.a)) s

/-- ROL of memory (R232): C from bit 7, the old C into bit 0. -/
def opRol (m : MemMode) (s : State) : Out :=
  rmwOp m (fun v => rotateLeft v s.p.c) (fun v s => shiftFlags v.msb (rotateLeft v s.p.c) s) s

/-- ROL of A (R232). -/
def opRolAcc (s : State) : Out :=
  impliedOp (fun s => (shiftFlags s.a.msb (rotateLeft s.a s.p.c) s).setA (rotateLeft s.a s.p.c)) s

/-- ROR of memory (R233): C from bit 0, the old C into bit 7. -/
def opRor (m : MemMode) (s : State) : Out :=
  rmwOp m (fun v => rotateRight v s.p.c) (fun v s => shiftFlags (v.getLsbD 0) (rotateRight v s.p.c) s) s

/-- ROR of A (R233). -/
def opRorAcc (s : State) : Out :=
  impliedOp (fun s => (shiftFlags (s.a.getLsbD 0) (rotateRight s.a s.p.c) s).setA (rotateRight s.a s.p.c)) s

/-! ### One meaning for each row of the opcode table -/

/-- $06 ASL $nn (R230). -/
def execAslZp (b1 : Byte) (s : State) : Out := opAsl (.zeroPage b1) s

/-- $0A ASL A (R230). -/
def execAslAcc (s : State) : Out := opAslAcc s

/-- $0E ASL $nnnn (R230). -/
def execAslAbs (addr : Word) (s : State) : Out := opAsl (.absolute addr) s

/-- $16 ASL $nn,X (R230). -/
def execAslZpX (b1 : Byte) (s : State) : Out := opAsl (.zeroPageX b1) s

/-- $1E ASL $nnnn,X (R230). -/
def execAslAbsX (addr : Word) (s : State) : Out := opAsl (.absoluteX addr) s

/-- $46 LSR $nn (R231). -/
def execLsrZp (b1 : Byte) (s : State) : Out := opLsr (.zeroPage b1) s

/-- $4A LSR A (R231). -/
def execLsrAcc (s : State) : Out := opLsrAcc s

/-- $4E LSR $nnnn (R231). -/
def execLsrAbs (addr : Word) (s : State) : Out := opLsr (.absolute addr) s

/-- $56 LSR $nn,X (R231). -/
def execLsrZpX (b1 : Byte) (s : State) : Out := opLsr (.zeroPageX b1) s

/-- $5E LSR $nnnn,X (R231). -/
def execLsrAbsX (addr : Word) (s : State) : Out := opLsr (.absoluteX addr) s

/-- $26 ROL $nn (R232). -/
def execRolZp (b1 : Byte) (s : State) : Out := opRol (.zeroPage b1) s

/-- $2A ROL A (R232). -/
def execRolAcc (s : State) : Out := opRolAcc s

/-- $2E ROL $nnnn (R232). -/
def execRolAbs (addr : Word) (s : State) : Out := opRol (.absolute addr) s

/-- $36 ROL $nn,X (R232). -/
def execRolZpX (b1 : Byte) (s : State) : Out := opRol (.zeroPageX b1) s

/-- $3E ROL $nnnn,X (R232). -/
def execRolAbsX (addr : Word) (s : State) : Out := opRol (.absoluteX addr) s

/-- $66 ROR $nn (R233). -/
def execRorZp (b1 : Byte) (s : State) : Out := opRor (.zeroPage b1) s

/-- $6A ROR A (R233). -/
def execRorAcc (s : State) : Out := opRorAcc s

/-- $6E ROR $nnnn (R233). -/
def execRorAbs (addr : Word) (s : State) : Out := opRor (.absolute addr) s

/-- $76 ROR $nn,X (R233). -/
def execRorZpX (b1 : Byte) (s : State) : Out := opRor (.zeroPageX b1) s

/-- $7E ROR $nnnn,X (R233). -/
def execRorAbsX (addr : Word) (s : State) : Out := opRor (.absoluteX addr) s

end Sys2Proof.Machine
end

