-- ==== Sys2Proof/Machine/TransferStack.lean ====
section
/-! DEFINITION. Register transfers and stack instructions (42_transfer_stack.md R190 to R199). -/

namespace Sys2Proof.Machine

/-- TAX (R190). -/
def opTax (s : State) : Out := impliedOp (fun s => (s.setX s.a).setNZ s.a) s

/-- TAY (R191). -/
def opTay (s : State) : Out := impliedOp (fun s => (s.setY s.a).setNZ s.a) s

/-- TXA (R192). -/
def opTxa (s : State) : Out := impliedOp (fun s => (s.setA s.x).setNZ s.x) s

/-- TYA (R193). -/
def opTya (s : State) : Out := impliedOp (fun s => (s.setA s.y).setNZ s.y) s

/-- TSX (R194). -/
def opTsx (s : State) : Out := impliedOp (fun s => (s.setX s.sp).setNZ s.sp) s

/-- TXS (R195): no flags. -/
def opTxs (s : State) : Out := impliedOp (fun s => s.setSp s.x) s

/-- Push a byte after the dummy read of PC (R196, R197). That the record's operand is the byte pushed is a DESIGN CHOICE
beside 10_state.md R40's "the value written" (log 10). -/
def pushOp (v : Byte) (s : State) : Out :=
  andThen (dummyRead s.pc s) fun s => push v (s.noteOperand v)

/-- PHA (R196). -/
def opPha (s : State) : Out := pushOp s.a s

/-- PHP (R197): bits 5 and 4 pushed as 1. -/
def opPhp (s : State) : Out := pushOp (s.p.pushed true) s

/-- Pull a byte after the dummy reads of PC and of the stack (R198, R199). That the record's operand is the byte
pulled is a DESIGN CHOICE beside 10_state.md R40's "the value read" (log 10). -/
def pullOp (s : State) : Res Byte :=
  andThen (dummyRead s.pc s) fun s =>
  andThen (dummyRead (stackAddr s) s) fun s =>
  andThen (pull s) fun r => .next (r.1, r.2.noteOperand r.1)

/-- PLA (R198): N, Z from the new A. -/
def opPla (s : State) : Out := andThen (pullOp s) fun r => .next ((r.2.setA r.1).setNZ r.1)

/-- PLP (R199): all seven flags from the byte. -/
def opPlp (s : State) : Out := andThen (pullOp s) fun r => .next (r.2.setP (.pulled r.1))

/-! ### One meaning for each row of the opcode table -/

/-- $AA TAX (R190). -/
def execTax (s : State) : Out := opTax s

/-- $A8 TAY (R191). -/
def execTay (s : State) : Out := opTay s

/-- $8A TXA (R192). -/
def execTxa (s : State) : Out := opTxa s

/-- $98 TYA (R193). -/
def execTya (s : State) : Out := opTya s

/-- $BA TSX (R194). -/
def execTsx (s : State) : Out := opTsx s

/-- $9A TXS (R195). -/
def execTxs (s : State) : Out := opTxs s

/-- $48 PHA (R196). -/
def execPha (s : State) : Out := opPha s

/-- $08 PHP (R197). -/
def execPhp (s : State) : Out := opPhp s

/-- $68 PLA (R198). -/
def execPla (s : State) : Out := opPla s

/-- $28 PLP (R199). -/
def execPlp (s : State) : Out := opPlp s

end Sys2Proof.Machine
end

