-- ==== Sys2Proof/Machine/Undocumented.lean ====
section
/-! DEFINITION. Undocumented opcodes (47_undocumented.md R275 to R286; the NOP variants are in Machine/FlagsNop.lean). -/

namespace Sys2Proof.Machine

/-- LAX (R275). -/
def opLax (src : Source) (s : State) : Out := readOp src (fun m s => ((s.setA m).setX m).setNZ m) s

/-- SAX (R276): store A AND X; no flags. -/
def opSax (m : MemMode) (s : State) : Out := writeOp m (s.a &&& s.x) s

/-- DCP (R277). -/
def opDcp (m : MemMode) (s : State) : Out := rmwOp m (fun v => v - 1) (fun v s => s.compare s.a (v - 1)) s

/-- ISC (R278), in either decimal mode. -/
def opIsc (m : MemMode) (s : State) : Out :=
  rmwOp m (fun v => v + 1) (fun v s => s.setAlu (subWith s.a (v + 1) s.p.c s.p.d)) s

/-- SLO (R279). -/
def opSlo (m : MemMode) (s : State) : Out :=
  rmwOp m shiftLeft
    (fun v s => ((s.setC v.msb).setA (s.a ||| shiftLeft v)).setNZ (s.a ||| shiftLeft v)) s

/-- ANC (R280): C is the new N. -/
def opAnc (src : Source) (s : State) : Out :=
  readOp src (fun m s => ((s.setA (s.a &&& m)).setNZ (s.a &&& m)).setC (s.a &&& m).msb) s

/-- ALR (R281). -/
def opAlr (src : Source) (s : State) : Out :=
  readOp src (fun m s =>
    ((s.setA (shiftRight (s.a &&& m))).setNZ (shiftRight (s.a &&& m))).setC ((s.a &&& m).getLsbD 0)) s

/-- ARR's result and flags with D = 0 (R282). -/
def arrBinary (t : Byte) (c : Bool) : AluResult :=
  let r := rotateRight t c
  { r := r
    n := r.getLsbD 7
    v := r.getLsbD 6 ^^ r.getLsbD 5
    z := r == 0
    c := r.getLsbD 6 }

/-- ARR's result and flags with D = 1 (R282). -/
def arrDecimal (t : Byte) (c : Bool) : AluResult :=
  let r := rotateRight t c
  let r1 := if 5 < (lowPart t).toNat + (t &&& 1).toNat then highPart r ||| lowPart (r + 6) else r
  let c' := decide (5 < (t >>> 4).toNat + ((t >>> 4) &&& 1).toNat)
  { r := if c' then r1 + 0x60 else r1
    n := c
    v := (t ^^^ r).getLsbD 6
    z := r == 0
    c := c' }

/-- ARR (R282). -/
def opArr (src : Source) (s : State) : Out :=
  readOp src (fun m s =>
    s.setAlu (if s.p.d then arrDecimal (s.a &&& m) s.p.c else arrBinary (s.a &&& m) s.p.c)) s

/-- XAA's result for a value of the unstable constant (R283). -/
def xaaResult (a x imm magic : Byte) : Byte := (a ||| magic) &&& x &&& imm

/-- XAA (R283): the constant is a fresh free value at each execution. -/
def opXaa (src : Source) (s : State) : Out :=
  readOp src (fun m s =>
    ((s.setA (xaaResult s.a s.x m (Config.xaaMagic s.draws))).setNZ
      (xaaResult s.a s.x m (Config.xaaMagic s.draws))).nextDraw) s

/-- The 9-bit difference of AXS (R284). -/
def axsSum (a x imm : Byte) : Nat := (a &&& x).toNat + (~~~imm).toNat + 1

/-- AXS (R284). -/
def opAxs (src : Source) (s : State) : Out :=
  readOp src (fun m s =>
    ((s.setX (BitVec.ofNat 8 (axsSum s.a s.x m))).setNZ (BitVec.ofNat 8 (axsSum s.a s.x m))).setC
      (decide (256 ≤ axsSum s.a s.x m))) s

/-! ### One meaning for each row of the opcode table -/

/-- $A3 LAX ($nn,X) (R275). -/
def execLaxIzX (b1 : Byte) (s : State) : Out := opLax (.memory (.preIndexed b1)) s

/-- $A7 LAX $nn (R275). -/
def execLaxZp (b1 : Byte) (s : State) : Out := opLax (.memory (.zeroPage b1)) s

/-- $AF LAX $nnnn (R275). -/
def execLaxAbs (addr : Word) (s : State) : Out := opLax (.memory (.absolute addr)) s

/-- $B3 LAX ($nn),Y (R275). -/
def execLaxIzY (b1 : Byte) (s : State) : Out := opLax (.memory (.postIndexed b1)) s

/-- $B7 LAX $nn,Y (R275). -/
def execLaxZpY (b1 : Byte) (s : State) : Out := opLax (.memory (.zeroPageY b1)) s

/-- $BF LAX $nnnn,Y (R275). -/
def execLaxAbsY (addr : Word) (s : State) : Out := opLax (.memory (.absoluteY addr)) s

/-- $83 SAX ($nn,X) (R276). -/
def execSaxIzX (b1 : Byte) (s : State) : Out := opSax (.preIndexed b1) s

/-- $87 SAX $nn (R276). -/
def execSaxZp (b1 : Byte) (s : State) : Out := opSax (.zeroPage b1) s

/-- $8F SAX $nnnn (R276). -/
def execSaxAbs (addr : Word) (s : State) : Out := opSax (.absolute addr) s

/-- $97 SAX $nn,Y (R276). -/
def execSaxZpY (b1 : Byte) (s : State) : Out := opSax (.zeroPageY b1) s

/-- $C3 DCP ($nn,X) (R277). -/
def execDcpIzX (b1 : Byte) (s : State) : Out := opDcp (.preIndexed b1) s

/-- $C7 DCP $nn (R277). -/
def execDcpZp (b1 : Byte) (s : State) : Out := opDcp (.zeroPage b1) s

/-- $CF DCP $nnnn (R277). -/
def execDcpAbs (addr : Word) (s : State) : Out := opDcp (.absolute addr) s

/-- $D3 DCP ($nn),Y (R277). -/
def execDcpIzY (b1 : Byte) (s : State) : Out := opDcp (.postIndexed b1) s

/-- $D7 DCP $nn,X (R277). -/
def execDcpZpX (b1 : Byte) (s : State) : Out := opDcp (.zeroPageX b1) s

/-- $DB DCP $nnnn,Y (R277). -/
def execDcpAbsY (addr : Word) (s : State) : Out := opDcp (.absoluteY addr) s

/-- $DF DCP $nnnn,X (R277). -/
def execDcpAbsX (addr : Word) (s : State) : Out := opDcp (.absoluteX addr) s

/-- $E3 ISC ($nn,X) (R278). -/
def execIscIzX (b1 : Byte) (s : State) : Out := opIsc (.preIndexed b1) s

/-- $E7 ISC $nn (R278). -/
def execIscZp (b1 : Byte) (s : State) : Out := opIsc (.zeroPage b1) s

/-- $EF ISC $nnnn (R278). -/
def execIscAbs (addr : Word) (s : State) : Out := opIsc (.absolute addr) s

/-- $F3 ISC ($nn),Y (R278). -/
def execIscIzY (b1 : Byte) (s : State) : Out := opIsc (.postIndexed b1) s

/-- $F7 ISC $nn,X (R278). -/
def execIscZpX (b1 : Byte) (s : State) : Out := opIsc (.zeroPageX b1) s

/-- $FB ISC $nnnn,Y (R278). -/
def execIscAbsY (addr : Word) (s : State) : Out := opIsc (.absoluteY addr) s

/-- $FF ISC $nnnn,X (R278). -/
def execIscAbsX (addr : Word) (s : State) : Out := opIsc (.absoluteX addr) s

/-- $03 SLO ($nn,X) (R279). -/
def execSloIzX (b1 : Byte) (s : State) : Out := opSlo (.preIndexed b1) s

/-- $07 SLO $nn (R279). -/
def execSloZp (b1 : Byte) (s : State) : Out := opSlo (.zeroPage b1) s

/-- $0F SLO $nnnn (R279). -/
def execSloAbs (addr : Word) (s : State) : Out := opSlo (.absolute addr) s

/-- $13 SLO ($nn),Y (R279). -/
def execSloIzY (b1 : Byte) (s : State) : Out := opSlo (.postIndexed b1) s

/-- $17 SLO $nn,X (R279). -/
def execSloZpX (b1 : Byte) (s : State) : Out := opSlo (.zeroPageX b1) s

/-- $1B SLO $nnnn,Y (R279). -/
def execSloAbsY (addr : Word) (s : State) : Out := opSlo (.absoluteY addr) s

/-- $1F SLO $nnnn,X (R279). -/
def execSloAbsX (addr : Word) (s : State) : Out := opSlo (.absoluteX addr) s

/-- $0B ANC #$nn (R280). -/
def execAncImm0B (imm : Byte) (s : State) : Out := opAnc (.immediate imm) s

/-- $2B ANC #$nn (R280). -/
def execAncImm2B (imm : Byte) (s : State) : Out := opAnc (.immediate imm) s

/-- $4B ALR #$nn (R281). -/
def execAlrImm (imm : Byte) (s : State) : Out := opAlr (.immediate imm) s

/-- $6B ARR #$nn (R282). -/
def execArrImm (imm : Byte) (s : State) : Out := opArr (.immediate imm) s

/-- $8B XAA #$nn (R283). -/
def execXaaImm (imm : Byte) (s : State) : Out := opXaa (.immediate imm) s

/-- $CB AXS #$nn (R284). -/
def execAxsImm (imm : Byte) (s : State) : Out := opAxs (.immediate imm) s

end Sys2Proof.Machine
end

