-- ==== Sys2Proof/Machine/Dispatch.lean ====
section
/-! DEFINITION. One arm per instruction. -/

namespace Sys2Proof.Machine

def exec (i : Instr) (s : State) : Host.Outcome State Fault Refusal :=
  match i with
  -- LoadStore
  | .ldaIzX b1 => Sys2Proof.Machine.execLdaIzX b1 s
  | .ldaZp b1 => Sys2Proof.Machine.execLdaZp b1 s
  | .ldaImm imm => Sys2Proof.Machine.execLdaImm imm s
  | .ldaAbs addr => Sys2Proof.Machine.execLdaAbs addr s
  | .ldaIzY b1 => Sys2Proof.Machine.execLdaIzY b1 s
  | .ldaZpX b1 => Sys2Proof.Machine.execLdaZpX b1 s
  | .ldaAbsY addr => Sys2Proof.Machine.execLdaAbsY addr s
  | .ldaAbsX addr => Sys2Proof.Machine.execLdaAbsX addr s
  | .ldxImm imm => Sys2Proof.Machine.execLdxImm imm s
  | .ldxZp b1 => Sys2Proof.Machine.execLdxZp b1 s
  | .ldxAbs addr => Sys2Proof.Machine.execLdxAbs addr s
  | .ldxZpY b1 => Sys2Proof.Machine.execLdxZpY b1 s
  | .ldxAbsY addr => Sys2Proof.Machine.execLdxAbsY addr s
  | .ldyImm imm => Sys2Proof.Machine.execLdyImm imm s
  | .ldyZp b1 => Sys2Proof.Machine.execLdyZp b1 s
  | .ldyAbs addr => Sys2Proof.Machine.execLdyAbs addr s
  | .ldyZpX b1 => Sys2Proof.Machine.execLdyZpX b1 s
  | .ldyAbsX addr => Sys2Proof.Machine.execLdyAbsX addr s
  | .staIzX b1 => Sys2Proof.Machine.execStaIzX b1 s
  | .staZp b1 => Sys2Proof.Machine.execStaZp b1 s
  | .staAbs addr => Sys2Proof.Machine.execStaAbs addr s
  | .staIzY b1 => Sys2Proof.Machine.execStaIzY b1 s
  | .staZpX b1 => Sys2Proof.Machine.execStaZpX b1 s
  | .staAbsY addr => Sys2Proof.Machine.execStaAbsY addr s
  | .staAbsX addr => Sys2Proof.Machine.execStaAbsX addr s
  | .stxZp b1 => Sys2Proof.Machine.execStxZp b1 s
  | .stxAbs addr => Sys2Proof.Machine.execStxAbs addr s
  | .stxZpY b1 => Sys2Proof.Machine.execStxZpY b1 s
  | .styZp b1 => Sys2Proof.Machine.execStyZp b1 s
  | .styAbs addr => Sys2Proof.Machine.execStyAbs addr s
  | .styZpX b1 => Sys2Proof.Machine.execStyZpX b1 s
  -- TransferStack
  | .tax => Sys2Proof.Machine.execTax s
  | .tay => Sys2Proof.Machine.execTay s
  | .txa => Sys2Proof.Machine.execTxa s
  | .tya => Sys2Proof.Machine.execTya s
  | .tsx => Sys2Proof.Machine.execTsx s
  | .txs => Sys2Proof.Machine.execTxs s
  | .pha => Sys2Proof.Machine.execPha s
  | .php => Sys2Proof.Machine.execPhp s
  | .pla => Sys2Proof.Machine.execPla s
  | .plp => Sys2Proof.Machine.execPlp s
  -- ArithLogic
  | .adcIzX b1 => Sys2Proof.Machine.execAdcIzX b1 s
  | .adcZp b1 => Sys2Proof.Machine.execAdcZp b1 s
  | .adcImm imm => Sys2Proof.Machine.execAdcImm imm s
  | .adcAbs addr => Sys2Proof.Machine.execAdcAbs addr s
  | .adcIzY b1 => Sys2Proof.Machine.execAdcIzY b1 s
  | .adcZpX b1 => Sys2Proof.Machine.execAdcZpX b1 s
  | .adcAbsY addr => Sys2Proof.Machine.execAdcAbsY addr s
  | .adcAbsX addr => Sys2Proof.Machine.execAdcAbsX addr s
  | .sbcIzX b1 => Sys2Proof.Machine.execSbcIzX b1 s
  | .sbcZp b1 => Sys2Proof.Machine.execSbcZp b1 s
  | .sbcImm imm => Sys2Proof.Machine.execSbcImm imm s
  | .sbcAbs addr => Sys2Proof.Machine.execSbcAbs addr s
  | .sbcIzY b1 => Sys2Proof.Machine.execSbcIzY b1 s
  | .sbcZpX b1 => Sys2Proof.Machine.execSbcZpX b1 s
  | .sbcAbsY addr => Sys2Proof.Machine.execSbcAbsY addr s
  | .sbcAbsX addr => Sys2Proof.Machine.execSbcAbsX addr s
  | .andIzX b1 => Sys2Proof.Machine.execAndIzX b1 s
  | .andZp b1 => Sys2Proof.Machine.execAndZp b1 s
  | .andImm imm => Sys2Proof.Machine.execAndImm imm s
  | .andAbs addr => Sys2Proof.Machine.execAndAbs addr s
  | .andIzY b1 => Sys2Proof.Machine.execAndIzY b1 s
  | .andZpX b1 => Sys2Proof.Machine.execAndZpX b1 s
  | .andAbsY addr => Sys2Proof.Machine.execAndAbsY addr s
  | .andAbsX addr => Sys2Proof.Machine.execAndAbsX addr s
  | .oraIzX b1 => Sys2Proof.Machine.execOraIzX b1 s
  | .oraZp b1 => Sys2Proof.Machine.execOraZp b1 s
  | .oraImm imm => Sys2Proof.Machine.execOraImm imm s
  | .oraAbs addr => Sys2Proof.Machine.execOraAbs addr s
  | .oraIzY b1 => Sys2Proof.Machine.execOraIzY b1 s
  | .oraZpX b1 => Sys2Proof.Machine.execOraZpX b1 s
  | .oraAbsY addr => Sys2Proof.Machine.execOraAbsY addr s
  | .oraAbsX addr => Sys2Proof.Machine.execOraAbsX addr s
  | .eorIzX b1 => Sys2Proof.Machine.execEorIzX b1 s
  | .eorZp b1 => Sys2Proof.Machine.execEorZp b1 s
  | .eorImm imm => Sys2Proof.Machine.execEorImm imm s
  | .eorAbs addr => Sys2Proof.Machine.execEorAbs addr s
  | .eorIzY b1 => Sys2Proof.Machine.execEorIzY b1 s
  | .eorZpX b1 => Sys2Proof.Machine.execEorZpX b1 s
  | .eorAbsY addr => Sys2Proof.Machine.execEorAbsY addr s
  | .eorAbsX addr => Sys2Proof.Machine.execEorAbsX addr s
  | .bitZp b1 => Sys2Proof.Machine.execBitZp b1 s
  | .bitAbs addr => Sys2Proof.Machine.execBitAbs addr s
  | .cmpIzX b1 => Sys2Proof.Machine.execCmpIzX b1 s
  | .cmpZp b1 => Sys2Proof.Machine.execCmpZp b1 s
  | .cmpImm imm => Sys2Proof.Machine.execCmpImm imm s
  | .cmpAbs addr => Sys2Proof.Machine.execCmpAbs addr s
  | .cmpIzY b1 => Sys2Proof.Machine.execCmpIzY b1 s
  | .cmpZpX b1 => Sys2Proof.Machine.execCmpZpX b1 s
  | .cmpAbsY addr => Sys2Proof.Machine.execCmpAbsY addr s
  | .cmpAbsX addr => Sys2Proof.Machine.execCmpAbsX addr s
  | .cpxImm imm => Sys2Proof.Machine.execCpxImm imm s
  | .cpxZp b1 => Sys2Proof.Machine.execCpxZp b1 s
  | .cpxAbs addr => Sys2Proof.Machine.execCpxAbs addr s
  | .cpyImm imm => Sys2Proof.Machine.execCpyImm imm s
  | .cpyZp b1 => Sys2Proof.Machine.execCpyZp b1 s
  | .cpyAbs addr => Sys2Proof.Machine.execCpyAbs addr s
  | .incZp b1 => Sys2Proof.Machine.execIncZp b1 s
  | .incAbs addr => Sys2Proof.Machine.execIncAbs addr s
  | .incZpX b1 => Sys2Proof.Machine.execIncZpX b1 s
  | .incAbsX addr => Sys2Proof.Machine.execIncAbsX addr s
  | .decZp b1 => Sys2Proof.Machine.execDecZp b1 s
  | .decAbs addr => Sys2Proof.Machine.execDecAbs addr s
  | .decZpX b1 => Sys2Proof.Machine.execDecZpX b1 s
  | .decAbsX addr => Sys2Proof.Machine.execDecAbsX addr s
  | .inx => Sys2Proof.Machine.execInx s
  | .iny => Sys2Proof.Machine.execIny s
  | .dex => Sys2Proof.Machine.execDex s
  | .dey => Sys2Proof.Machine.execDey s
  -- ShiftRotate
  | .aslZp b1 => Sys2Proof.Machine.execAslZp b1 s
  | .aslAcc => Sys2Proof.Machine.execAslAcc s
  | .aslAbs addr => Sys2Proof.Machine.execAslAbs addr s
  | .aslZpX b1 => Sys2Proof.Machine.execAslZpX b1 s
  | .aslAbsX addr => Sys2Proof.Machine.execAslAbsX addr s
  | .lsrZp b1 => Sys2Proof.Machine.execLsrZp b1 s
  | .lsrAcc => Sys2Proof.Machine.execLsrAcc s
  | .lsrAbs addr => Sys2Proof.Machine.execLsrAbs addr s
  | .lsrZpX b1 => Sys2Proof.Machine.execLsrZpX b1 s
  | .lsrAbsX addr => Sys2Proof.Machine.execLsrAbsX addr s
  | .rolZp b1 => Sys2Proof.Machine.execRolZp b1 s
  | .rolAcc => Sys2Proof.Machine.execRolAcc s
  | .rolAbs addr => Sys2Proof.Machine.execRolAbs addr s
  | .rolZpX b1 => Sys2Proof.Machine.execRolZpX b1 s
  | .rolAbsX addr => Sys2Proof.Machine.execRolAbsX addr s
  | .rorZp b1 => Sys2Proof.Machine.execRorZp b1 s
  | .rorAcc => Sys2Proof.Machine.execRorAcc s
  | .rorAbs addr => Sys2Proof.Machine.execRorAbs addr s
  | .rorZpX b1 => Sys2Proof.Machine.execRorZpX b1 s
  | .rorAbsX addr => Sys2Proof.Machine.execRorAbsX addr s
  -- FlagsNop
  | .clc => Sys2Proof.Machine.execClc s
  | .sec => Sys2Proof.Machine.execSec s
  | .cli => Sys2Proof.Machine.execCli s
  | .sei => Sys2Proof.Machine.execSei s
  | .cld => Sys2Proof.Machine.execCld s
  | .sed => Sys2Proof.Machine.execSed s
  | .clv => Sys2Proof.Machine.execClv s
  | .nopZp04 b1 => Sys2Proof.Machine.execNopZp04 b1 s
  | .nopAbs addr => Sys2Proof.Machine.execNopAbs addr s
  | .nopZpX14 b1 => Sys2Proof.Machine.execNopZpX14 b1 s
  | .nop1A => Sys2Proof.Machine.execNop1A s
  | .nopAbsX1C addr => Sys2Proof.Machine.execNopAbsX1C addr s
  | .nopZpX34 b1 => Sys2Proof.Machine.execNopZpX34 b1 s
  | .nop3A => Sys2Proof.Machine.execNop3A s
  | .nopAbsX3C addr => Sys2Proof.Machine.execNopAbsX3C addr s
  | .nopZp44 b1 => Sys2Proof.Machine.execNopZp44 b1 s
  | .nopZpX54 b1 => Sys2Proof.Machine.execNopZpX54 b1 s
  | .nop5A => Sys2Proof.Machine.execNop5A s
  | .nopAbsX5C addr => Sys2Proof.Machine.execNopAbsX5C addr s
  | .nopZp64 b1 => Sys2Proof.Machine.execNopZp64 b1 s
  | .nopZpX74 b1 => Sys2Proof.Machine.execNopZpX74 b1 s
  | .nop7A => Sys2Proof.Machine.execNop7A s
  | .nopAbsX7C addr => Sys2Proof.Machine.execNopAbsX7C addr s
  | .nopImm80 imm => Sys2Proof.Machine.execNopImm80 imm s
  | .nopImm82 imm => Sys2Proof.Machine.execNopImm82 imm s
  | .nopImm89 imm => Sys2Proof.Machine.execNopImm89 imm s
  | .nopImmC2 imm => Sys2Proof.Machine.execNopImmC2 imm s
  | .nopZpXD4 b1 => Sys2Proof.Machine.execNopZpXD4 b1 s
  | .nopDA => Sys2Proof.Machine.execNopDA s
  | .nopAbsXDC addr => Sys2Proof.Machine.execNopAbsXDC addr s
  | .nopImmE2 imm => Sys2Proof.Machine.execNopImmE2 imm s
  | .nop => Sys2Proof.Machine.execNop s
  | .nopZpXF4 b1 => Sys2Proof.Machine.execNopZpXF4 b1 s
  | .nopFA => Sys2Proof.Machine.execNopFA s
  | .nopAbsXFC addr => Sys2Proof.Machine.execNopAbsXFC addr s
  -- Control
  | .bcc off => Sys2Proof.Machine.execBcc off s
  | .bcs off => Sys2Proof.Machine.execBcs off s
  | .beq off => Sys2Proof.Machine.execBeq off s
  | .bne off => Sys2Proof.Machine.execBne off s
  | .bmi off => Sys2Proof.Machine.execBmi off s
  | .bpl off => Sys2Proof.Machine.execBpl off s
  | .bvc off => Sys2Proof.Machine.execBvc off s
  | .bvs off => Sys2Proof.Machine.execBvs off s
  | .jmpAbs target => Sys2Proof.Machine.execJmpAbs target s
  | .jmpInd ptr => Sys2Proof.Machine.execJmpInd ptr s
  | .jsr target => Sys2Proof.Machine.execJsr target s
  | .rts => Sys2Proof.Machine.execRts s
  | .brk => Sys2Proof.Machine.execBrk s
  | .rti => Sys2Proof.Machine.execRti s
  -- Undocumented
  | .laxIzX b1 => Sys2Proof.Machine.execLaxIzX b1 s
  | .laxZp b1 => Sys2Proof.Machine.execLaxZp b1 s
  | .laxAbs addr => Sys2Proof.Machine.execLaxAbs addr s
  | .laxIzY b1 => Sys2Proof.Machine.execLaxIzY b1 s
  | .laxZpY b1 => Sys2Proof.Machine.execLaxZpY b1 s
  | .laxAbsY addr => Sys2Proof.Machine.execLaxAbsY addr s
  | .saxIzX b1 => Sys2Proof.Machine.execSaxIzX b1 s
  | .saxZp b1 => Sys2Proof.Machine.execSaxZp b1 s
  | .saxAbs addr => Sys2Proof.Machine.execSaxAbs addr s
  | .saxZpY b1 => Sys2Proof.Machine.execSaxZpY b1 s
  | .dcpIzX b1 => Sys2Proof.Machine.execDcpIzX b1 s
  | .dcpZp b1 => Sys2Proof.Machine.execDcpZp b1 s
  | .dcpAbs addr => Sys2Proof.Machine.execDcpAbs addr s
  | .dcpIzY b1 => Sys2Proof.Machine.execDcpIzY b1 s
  | .dcpZpX b1 => Sys2Proof.Machine.execDcpZpX b1 s
  | .dcpAbsY addr => Sys2Proof.Machine.execDcpAbsY addr s
  | .dcpAbsX addr => Sys2Proof.Machine.execDcpAbsX addr s
  | .iscIzX b1 => Sys2Proof.Machine.execIscIzX b1 s
  | .iscZp b1 => Sys2Proof.Machine.execIscZp b1 s
  | .iscAbs addr => Sys2Proof.Machine.execIscAbs addr s
  | .iscIzY b1 => Sys2Proof.Machine.execIscIzY b1 s
  | .iscZpX b1 => Sys2Proof.Machine.execIscZpX b1 s
  | .iscAbsY addr => Sys2Proof.Machine.execIscAbsY addr s
  | .iscAbsX addr => Sys2Proof.Machine.execIscAbsX addr s
  | .sloIzX b1 => Sys2Proof.Machine.execSloIzX b1 s
  | .sloZp b1 => Sys2Proof.Machine.execSloZp b1 s
  | .sloAbs addr => Sys2Proof.Machine.execSloAbs addr s
  | .sloIzY b1 => Sys2Proof.Machine.execSloIzY b1 s
  | .sloZpX b1 => Sys2Proof.Machine.execSloZpX b1 s
  | .sloAbsY addr => Sys2Proof.Machine.execSloAbsY addr s
  | .sloAbsX addr => Sys2Proof.Machine.execSloAbsX addr s
  | .ancImm0B imm => Sys2Proof.Machine.execAncImm0B imm s
  | .ancImm2B imm => Sys2Proof.Machine.execAncImm2B imm s
  | .alrImm imm => Sys2Proof.Machine.execAlrImm imm s
  | .arrImm imm => Sys2Proof.Machine.execArrImm imm s
  | .xaaImm imm => Sys2Proof.Machine.execXaaImm imm s
  | .axsImm imm => Sys2Proof.Machine.execAxsImm imm s
  -- Invalid
  | .invalid02 => Sys2Proof.Machine.execInvalid02 s
  | .invalid12 => Sys2Proof.Machine.execInvalid12 s
  | .invalid22 => Sys2Proof.Machine.execInvalid22 s
  | .invalid23 => Sys2Proof.Machine.execInvalid23 s
  | .invalid27 => Sys2Proof.Machine.execInvalid27 s
  | .invalid2F => Sys2Proof.Machine.execInvalid2F s
  | .invalid32 => Sys2Proof.Machine.execInvalid32 s
  | .invalid33 => Sys2Proof.Machine.execInvalid33 s
  | .invalid37 => Sys2Proof.Machine.execInvalid37 s
  | .invalid3B => Sys2Proof.Machine.execInvalid3B s
  | .invalid3F => Sys2Proof.Machine.execInvalid3F s
  | .invalid42 => Sys2Proof.Machine.execInvalid42 s
  | .invalid43 => Sys2Proof.Machine.execInvalid43 s
  | .invalid47 => Sys2Proof.Machine.execInvalid47 s
  | .invalid4F => Sys2Proof.Machine.execInvalid4F s
  | .invalid52 => Sys2Proof.Machine.execInvalid52 s
  | .invalid53 => Sys2Proof.Machine.execInvalid53 s
  | .invalid57 => Sys2Proof.Machine.execInvalid57 s
  | .invalid5B => Sys2Proof.Machine.execInvalid5B s
  | .invalid5F => Sys2Proof.Machine.execInvalid5F s
  | .invalid62 => Sys2Proof.Machine.execInvalid62 s
  | .invalid63 => Sys2Proof.Machine.execInvalid63 s
  | .invalid67 => Sys2Proof.Machine.execInvalid67 s
  | .invalid6F => Sys2Proof.Machine.execInvalid6F s
  | .invalid72 => Sys2Proof.Machine.execInvalid72 s
  | .invalid73 => Sys2Proof.Machine.execInvalid73 s
  | .invalid77 => Sys2Proof.Machine.execInvalid77 s
  | .invalid7B => Sys2Proof.Machine.execInvalid7B s
  | .invalid7F => Sys2Proof.Machine.execInvalid7F s
  | .invalid92 => Sys2Proof.Machine.execInvalid92 s
  | .invalid93 => Sys2Proof.Machine.execInvalid93 s
  | .invalid9B => Sys2Proof.Machine.execInvalid9B s
  | .invalid9C => Sys2Proof.Machine.execInvalid9C s
  | .invalid9E => Sys2Proof.Machine.execInvalid9E s
  | .invalid9F => Sys2Proof.Machine.execInvalid9F s
  | .invalidAB => Sys2Proof.Machine.execInvalidAB s
  | .invalidB2 => Sys2Proof.Machine.execInvalidB2 s
  | .invalidBB => Sys2Proof.Machine.execInvalidBB s
  | .invalidD2 => Sys2Proof.Machine.execInvalidD2 s
  | .invalidEB => Sys2Proof.Machine.execInvalidEB s
  | .invalidF2 => Sys2Proof.Machine.execInvalidF2 s

end Sys2Proof.Machine
end

