-- ==== Sys2Proof/Machine/Fetch.lean ====
section
/-! DEFINITION. The instruction frame around a meaning: fetching the opcode and the operand bytes, closing the
last-result record, the interrupt check's conditions, and the stores that put an instruction where the next
fetch finds it (40_addressing.md R140; 60_exceptions.md R310). -/

namespace Sys2Proof.Machine

/-- A fresh record for the instruction at PC (R140). -/
def startRecord (s : State) : State := s.setCur { LastResult.blank with address := s.pc }

/-- Cycle 1: the opcode fetch, and the row it selects (R140, 30_encoding.md R113). -/
def fetchOpcode (s : State) : Res Byte :=
  andThen (fetchByte (startRecord s)) fun op =>
  .next (op.1, op.2.setCur { op.2.cur with opcode := op.1, defn := some (rowOf op.1) })

/-- The operand bytes of a shape, each fetched in its cycle: cycles 2 and 3 (R142 to R152). JMP absolute does
not advance PC past its last byte (46_control.md R259). Of JSR only the first operand byte is fetched here; its
second is looked at without a bus cycle, and read again by the meaning in cycle 6 (R260, log 11). -/
def fetchOperands (sh : Shape) (s : State) : Res Instr :=
  match sh with
  | .bare i => .next (i, s)
  | .byte f => andThen (fetchByte s) fun b1 => .next (f b1.1, b1.2)
  | .word f =>
    andThen (fetchByte s) fun b1 =>
    andThen (fetchByte b1.2) fun b2 => .next (f (word b2.1 b1.1), b2.2)
  | .jump f =>
    andThen (fetchByte s) fun b1 =>
    andThen (memRead b1.2.pc b1.2) fun b2 => .next (f (word b2.1 b1.1), b2.2)
  | .call f =>
    andThen (fetchByte s) fun b1 =>
    .next (f (word (busRead b1.2.pc b1.2).1 b1.1), b1.2)

/-- The instruction at PC, fetched (R140). -/
def fetchInstr (s : State) : Res Instr :=
  andThen (fetchOpcode s) fun op => fetchOperands (entryOf op.1).shape op.2

/-- The bug field of a finished record: an undocumented opcode of NV_BUG_OPCODES reports LateNVFlags
(60_exceptions.md R306). -/
def finalBug (cur : LastResult) : Bug :=
  if (rowOf cur.opcode).documented then cur.bug
  else if Config.nvBugOpcode cur.opcode then .lateNVFlags else cur.bug

/-- The last-result record of the instruction that has completed (R140). -/
def closeRecord (s : State) : State :=
  { s with last := { s.cur with bug := finalBug s.cur, final := true } }

/-- Whether an IRQ is due (60_exceptions.md R310, R312). -/
def irqDue (s : State) : Bool := s.irqLine && !s.p.i

/-- The counters and records of a new step() (64_scheduler.md R494, log 16). -/
def startStep (s : State) : State := { s with stepCycles := 0, signals := [] }

/-! ### Placing an instruction (log 5) -/

/-- Store a byte at the RAM or cartridge byte a CPU address reaches. -/
def placeByte (addr : Word) (v : Byte) (m : Memory) : Memory :=
  match plainTarget addr with
  | some k => Memory.write m k v
  | none => m

/-- Three bytes from an address on all reach RAM or the cartridge. -/
def holdsCode (addr : Word) : Bool :=
  (plainTarget addr).isSome && (plainTarget (addr + 1)).isSome && (plainTarget (addr + 2)).isSome

/-- Where the instruction is placed: at PC, or at $F000, the source's convention (70_reset_and_hazards.md R525),
when PC is not in RAM or the cartridge. -/
def codeAddr (s : State) : Word := if holdsCode s.pc then s.pc else 0xF000

/-- The three bytes of a table word at an address. -/
def placeWord (addr : Word) (v : Nat) (m : Memory) : Memory :=
  placeByte (addr + 2) (BitVec.ofNat 8 (v / 65536))
    (placeByte (addr + 1) (BitVec.ofNat 8 (v / 256)) (placeByte addr (BitVec.ofNat 8 v) m))

/-- The cartridge that holds placed code: the plain ROM when the code is in the cartridge's window. -/
def codeCart (addr : Word) (c : Cart) : Cart := if (busAddr addr).getLsbD 12 then .rom else c

end Sys2Proof.Machine
end

