-- ==== Sys2Proof/Machine/Step.lean ====
section
/-! DEFINITION. One step() of the block (64_scheduler.md R494): the interrupt check, one instruction or one
interrupt entry, and the drain of RDY stall cycles. -/

namespace Sys2Proof.Machine

/-- One instruction (40_addressing.md R140). -/
def runInstr (s : State) : Out :=
  andThen (fetchInstr s) fun r =>
  andThen (exec r.1 r.2) fun s => .next (closeRecord s)

/-- What starts at an instruction boundary (60_exceptions.md R310): NMI entry, IRQ entry, or an instruction. -/
def atBoundary (s : State) : Out :=
  if s.nmiPending then interruptEntry nmiVector { s with nmiPending := false }
  else if irqDue s then interruptEntry irqVector s
  else runInstr s

/-- step() (R494). A machine whose fault is set takes no step (10_state.md R37). -/
def step (s : State) : Host.Outcome State Fault Refusal :=
  match s.fault with
  | some k => .refused (.machineFaulted k)
  | none => andThen (atBoundary (startStep s)) stall

/-- The state with the instruction of a table word where the next step fetches it, and nothing due that would
run instead: no fault, no pending NMI, no IRQ (log 5). -/
def State.withFetchWord (s : State) (nbits w : Nat) : State :=
  { s with
    pc := codeAddr s
    mem := placeWord (codeAddr s) (w % 2 ^ nbits) s.mem
    cart := codeCart (codeAddr s) s.cart
    nmiPending := false
    irqLine := false
    fault := none }

end Sys2Proof.Machine
end

