-- ==== Sys2Proof/Safety.lean ====
section
/-! DEFINITION. The terms that claims use: what holds between two CPU cycles, what holds between two steps, what
part of a chip only a write changes, frames, and runs of a chip over several clocks. -/

namespace Sys2Proof.Machine

/-! ### What holds between cycles and between steps -/

/-- The tags of the occupied slots of the delay queue. -/
def Tia.tags (t : Tia) : List Tag := t.dq.map fun sl => sl.event.tag

/-- Between two CPU cycles: both inboxes are empty (20_memory.md R86, 64_scheduler.md R492) and no tag occupies
two slots of the delay queue (10_state.md R60). -/
def Ready (s : State) : Prop := s.tia.inbox = none ∧ s.riot.inbox = none ∧ s.tia.tags.Nodup

/-- What the TIA's fields keep to: a waiting slot fires in 1 to PF_DELAY clocks (10_state.md R60; the delays of
00_scope.md R8); PF0 and CTRLPF store the bits of 62_tia_objects.md R380 of the last value written to them (10_state.md
R50; log 9). -/
def Tia.Ok (t : Tia) : Prop :=
  (∀ sl ∈ t.dq, 1 ≤ sl.remaining ∧ sl.remaining ≤ Config.pfDelay) ∧
  t.pf0 = t.pf0Last &&& 0xF0 ∧ t.ctrlpf = t.ctrlpfLast &&& 0x37

/-- What the RIOT's timer keeps to: prescale runs from 1 to the divisor, and a step that underflowed has set
expired (10_state.md R66, 63_riot.md R453, R456). -/
def Riot.Ok (r : Riot) : Prop :=
  1 ≤ r.prescale ∧ r.prescale ≤ r.divisor.cycles ∧ (r.expiredNow = true → r.expired = true)

/-- The invariant of step boundaries: RDY is 1 and the CPU is not halted (64_scheduler.md R494), there is no
fault, memory is in its canonical form, and the chips' fields keep to their ranges. -/
structure Inv (s : State) : Prop where
  ready   : Ready s
  tia     : s.tia.Ok
  riot    : s.riot.Ok
  mem     : s.mem.wf = true
  rdy     : s.tia.rdy = true
  halted  : s.halted = false
  noFault : s.fault = none

/-- No interrupt is due at the boundary (60_exceptions.md R310). -/
def NoInterrupt (s : State) : Prop := s.nmiPending = false ∧ irqDue s = false

/-! ### Frames -/

/-- The TIA's write registers and nothing else (62_tia_objects.md R380 less its strobes): what a write alone
changes. Counters, queue, latches of collisions and inputs, and pf_work go on with the clock. -/
def Tia.registers (t : Tia) : Tia :=
  { Tia.reset with
    vsync := t.vsync, vblankVideo := t.vblankVideo, vblankLatch := t.vblankLatch, vblankDump := t.vblankDump
    hm := t.hm, pl0 := t.pl0, pl1 := t.pl1
    enablNew := t.enablNew, enablOld := t.enablOld, vdelbl := t.vdelbl
    pf0 := t.pf0, pf0Last := t.pf0Last, pf1 := t.pf1, pf2 := t.pf2
    ctrlpf := t.ctrlpf, ctrlpfLast := t.ctrlpfLast, colupf := t.colupf, colubk := t.colubk
    audc0 := t.audc0, audc1 := t.audc1, audf0 := t.audf0, audf1 := t.audf1, audv0 := t.audv0, audv1 := t.audv1 }

/-- The RIOT's ports and edge selection (63_riot.md R462, R471): what a write alone changes. -/
def Riot.registers (r : Riot) : Riot :=
  { Riot.reset with edgeRising := r.edgeRising, ora := r.ora, ddra := r.ddra, orb := r.orb, ddrb := r.ddrb }

/-- Every register of the CPU, its interrupt lines, its fault and report state and the last-result record are the
same. -/
structure SameCpu (s t : State) : Prop where
  a          : t.a = s.a
  x          : t.x = s.x
  y          : t.y = s.y
  sp         : t.sp = s.sp
  pc         : t.pc = s.pc
  p          : t.p = s.p
  irqLine    : t.irqLine = s.irqLine
  nmiLine    : t.nmiLine = s.nmiLine
  nmiPending : t.nmiPending = s.nmiPending
  fault      : t.fault = s.fault
  reports    : t.reports = s.reports
  last       : t.last = s.last

/-- The frame of whatever stores nothing: the CPU, all of memory, the chips' write registers and a plain cartridge
are the same, and the machine is between two cycles. -/
structure Frame (s t : State) : Prop where
  cpu   : SameCpu s t
  mem   : t.mem = s.mem
  tia   : t.tia.registers = s.tia.registers
  riot  : t.riot.registers = s.riot.registers
  rom   : s.cart = .rom → t.cart = .rom
  ready : Ready t

/-- Everything on the bus's side of the CPU is the same: memory, chips, cartridge, the RDY halt, the clocks and their
records. It holds from an instruction's last bus cycle on. -/
structure SameBus (s t : State) : Prop where
  mem        : t.mem = s.mem
  tia        : t.tia = s.tia
  riot       : t.riot = s.riot
  cart       : t.cart = s.cart
  halted     : t.halted = s.halted
  cycleCount : t.cycleCount = s.cycleCount
  stepCycles : t.stepCycles = s.stepCycles
  signals    : t.signals = s.signals

/-- The TIA that a schedule leaves; where it found the delay queue full, as it was at the call (60_exceptions.md
R303). -/
def leftBy (r : Except QueueFull Tia) : Tia :=
  match r with
  | .ok t => t
  | .error e => e.tia

/-- The TIA after the service of a write. -/
def tiaWritten (reg : BitVec 6) (v : Byte) (t : Tia) : Tia := leftBy (tiaWrite reg v t)

/-- The frame of one store: if the address reaches RAM, that byte reads as the value; every other byte of memory
reads as before; the write registers of a chip are those that the service of the write leaves if the address
selects that chip, else as before. -/
structure Stored (ea : Word) (v : Byte) (s t : State) : Prop where
  byte   : ∀ k, ramTarget ea = some k → Memory.read t.mem k = v
  others : ∀ k, ramTarget ea ≠ some k → Memory.read t.mem k = Memory.read s.mem k
  tia    : t.tia.registers =
    if chipSelect (busAddr ea) = .tia then (tiaWritten ((busAddr ea).extractLsb' 0 6) v s.tia).registers
    else s.tia.registers
  riot   : t.riot.registers =
    if chipSelect (busAddr ea) = .riot then (riotWrite (riotWriteReg (busAddr ea)) v s.riot).registers
    else s.riot.registers
  rom    : s.cart = .rom → t.cart = .rom
  ready  : Ready t

/-- The clocks ran together: as many CPU cycles on cpu_cycle_count as on cpu_cycles_consumed, and three signal
records for each (64_scheduler.md R490, R495). -/
def Counted (s t : State) : Prop :=
  ∃ k, t.cycleCount = s.cycleCount + k ∧ t.stepCycles = s.stepCycles + k ∧
    t.signals.length = s.signals.length + 3 * k

/-! ### What an instruction does, in the terms of its rule -/

/-- The flags after N and Z are set from a value (41_load_store.md R186). -/
def withNZ (p : Status) (v : Byte) : Status := { p with n := v.getLsbD 7, z := decide (v = 0) }

/-- The flags after the comparison of a register with a value (43_arith_logic.md R207). -/
def withCompare (p : Status) (r m : Byte) : Status :=
  { p with n := (r - m).getLsbD 7, z := decide (r = m), c := decide (m.toNat ≤ r.toNat) }

/-- The byte N<<7 | V<<6 | 1<<5 | B'<<4 | D<<3 | I<<2 | Z<<1 | C (10_state.md R33). -/
def flagByte (p : Status) (b : Bool) : Byte :=
  BitVec.ofNat 8 (128 * p.n.toNat + 64 * p.v.toNat + 32 + 16 * b.toNat + 8 * p.d.toNat + 4 * p.i.toNat +
    2 * p.z.toNat + p.c.toNat)

/-- The flags that a pulled byte gives: bit 5 is discarded (10_state.md R33). -/
def flagsOf (v : Byte) : Status where
  n := v.getLsbD 7
  v := v.getLsbD 6
  b := v.getLsbD 4
  d := v.getLsbD 3
  i := v.getLsbD 2
  z := v.getLsbD 1
  c := v.getLsbD 0

/-- An instruction that reads its operand completes: the READ sequence answers a value m (40_addressing.md R142,
R155), no bus cycle follows it, and the next state is the one with the registers of g m s, everything else as it was. -/
def ReadRuns (i : Instr) (src : Source) (s : State) (g : Byte → State → State) : Prop :=
  ∃ m s1 t, readSource src s = .next (m, s1) ∧ exec i s = .next t ∧ SameBus s1 t ∧ Frame (g m s) t

/-- An instruction that stores a register completes: after the dummy read of an indexed mode, one write cycle stores v at
the effective address of its operand (R158), and nothing else changes. -/
def WriteRuns (i : Instr) (m : MemMode) (s : State) (v : Byte) : Prop :=
  ∃ ad s1 s2 t, resolve m s = .next (ad, s1) ∧ indexedDummy ad s1 = .next s2 ∧
    memWrite ad.ea v (s2.noteOperand v) = .next t ∧ exec i s = .next t ∧ SameCpu s t ∧ Stored ad.ea v s t

/-- An instruction that modifies memory completes: it reads v at the effective address of its operand, stores v
there and then f v, each in a cycle of its own (R160), and the registers become those of g v s. -/
def ModifyRuns (i : Instr) (m : MemMode) (s : State) (f : Byte → Byte) (g : Byte → State → State) : Prop :=
  ∃ ad s1 s2 v s3 u w t, resolve m s = .next (ad, s1) ∧ indexedDummy ad s1 = .next s2 ∧
    memRead ad.ea s2 = .next (v, s3) ∧ memWrite ad.ea v (s3.noteOperand v) = .next u ∧
    memWrite ad.ea (f v) u = .next w ∧ exec i s = .next t ∧ SameBus w t ∧ SameCpu (g v s) t ∧
    Stored ad.ea v s u ∧ Stored ad.ea (f v) u t

/-- A one-byte instruction on registers completes in one cycle after its fetch, a dummy read of PC (R141): the next
state is u, everything else as it was. -/
def ImpliedRuns (i : Instr) (s u : State) : Prop :=
  ∃ s1 t, dummyRead s.pc s = .next s1 ∧ exec i s = .next t ∧ SameBus s1 t ∧ Frame u t ∧
    t.cur.cycles = s.cur.cycles + 1

/-! ### Plain memory -/

/-- The byte of RAM or of a plain cartridge that a read cycle at an address answers. -/
def plainByte (s : State) (addr : Word) : Option Byte :=
  if s.cart = .rom ∨ (busAddr addr).getLsbD 12 = false then (plainTarget addr).map (Memory.read s.mem) else none

/-- The bytes at PC, as far as they are plain memory and an instruction may need them. -/
def plainBytes (s : State) : List Byte :=
  match plainByte s s.pc with
  | none => []
  | some b0 =>
    match plainByte s (s.pc + 1) with
    | none => [b0]
    | some b1 => b0 :: b1 :: (plainByte s (s.pc + 2)).toList

/-- By how much the fetch of an instruction advances PC: its length, but one less for JMP absolute (46_control.md
R259) and for JSR, whose last byte is read in its cycle 6 (R260). -/
def pcAdvance (i : Instr) : Nat :=
  match (entryOf i.opcode).shape with
  | .jump _ | .call _ => 2
  | _ => (encode i).length

/-- The bus cycles that fetch an instruction: one a byte, less JSR's last (R260). -/
def fetchCycles (i : Instr) : Nat :=
  match (entryOf i.opcode).shape with
  | .call _ => 2
  | _ => (encode i).length

/-! ### Runs of a chip -/

/-- Colour clocks of the TIA with no service, one for each sample of the two button pins (61_tia_clock.md R340). -/
def tiaRun : List (Bool × Bool) → Tia → Except QueueFull Tia
  | [], t => .ok t
  | (b4, b5) :: bs, t =>
    match tiaStep false b4 b5 t with
    | .ok (t, _) => tiaRun bs t
    | .error e => .error e

/-- The rest of the colour clock in which a register write is served: stages 4 and 5 (61_tia_clock.md R340), with a
sample of the two button pins. -/
def restOfClock (pins : Bool × Bool) (t : Tia) : Tia := latchStage pins.1 pins.2 (objectStage t)

/-- Steps of the RIOT, one for each sample of the PA7 pin (63_riot.md R450). -/
def riotRun : List Bool → Riot → Riot
  | [], r => r
  | pin :: ps, r => riotRun ps (riotStep pin r)

/-- How many of the first n ripple steps pulse an object (61_tia_clock.md R361). -/
def pulseCount (o : Obj) : Nat → Tia → Nat
  | 0, _ => 0
  | n + 1, t =>
    ((rippleStep { t with pulse := .all false }).pulse.get o).toNat +
      pulseCount o n (rippleStep { t with pulse := .all false })

end Sys2Proof.Machine
end

