-- ==== Sys2Proof/Certificates/Slice0/Obligations.lean ====
section
/-! DEFINITION. Statements for the provers, in the terms of Sys2Proof/Safety.lean. A statement about an instruction
is about exec, which starts after the instruction's own bytes are fetched; StepRunsTheDecodedInstruction carries it
to step. -/

section Statements

open Sys2Proof Sys2Proof.Machine

/-! ### Encoding (30_encoding.md) -/

/-- Decoding the bytes of an instruction gives that instruction back, for every instruction, every operand value
and whatever bytes follow (R110, R111, R114). -/
def Obligations.DecodeInvertsEncode : Prop :=
  ∀ (i : Instr) (rest : List Byte), decode (encode i ++ rest) = .ok (i, rest)

/-- Whatever decodes is the encoding of what it decodes to, and a list of bytes is refused only for being shorter
than the instruction that its opcode names (R110, R113). -/
def Obligations.DecodeReadsOnlyEncodings : Prop :=
  ∀ bs : List Byte,
    (∀ i rest, decode bs = .ok (i, rest) → bs = encode i ++ rest) ∧
    (∀ e, decode bs = .error e → (bs = [] ∧ e = .noBytes) ∨
      ∃ op more, bs = op :: more ∧ e = .missingOperand op ∧
        ∀ i : Instr, i.opcode = op → more.length < i.operand.bytes.length)

/-- Words written out from the encodings of the instructions' rules decode to those instructions (R120's forms;
examples of 41_load_store.md R181, R184, 42_transfer_stack.md R196, 43_arith_logic.md R210, 44_shift_rotate.md R230,
45_flags_nop.md R240, 46_control.md R254, R259, R260, 47_undocumented.md R280, R286). -/
def Obligations.WrittenOutWordsDecode : Prop :=
  decode [0xA2, 0xFF] = .ok (.ldxImm 0xFF, []) ∧
  decode [0x86, 0x81] = .ok (.stxZp 0x81, []) ∧
  decode [0x48] = .ok (.pha, []) ∧
  decode [0x69, 0x50] = .ok (.adcImm 0x50, []) ∧
  decode [0x0A] = .ok (.aslAcc, []) ∧
  decode [0x18] = .ok (.clc, []) ∧
  decode [0xD0, 0xFE] = .ok (.bne 0xFE, []) ∧
  decode [0x4C, 0x00, 0xF0] = .ok (.jmpAbs 0xF000, []) ∧
  decode [0x6C, 0xFF, 0x10] = .ok (.jmpInd 0x10FF, []) ∧
  decode [0x20, 0x00, 0xF1] = .ok (.jsr 0xF100, []) ∧
  decode [0x0B, 0x80] = .ok (.ancImm0B 0x80, []) ∧
  decode [0x02] = .ok (.invalid02, [])

/-- The opcode map as a whole: 151 documented, 64 admitted undocumented and 41 invalid opcodes (R115), the invalid
ones those of R118, page sensitivity by category and mode (R117), and lengths by mode (R110). -/
def Obligations.OpcodeMapIsAsTheRulesSay : Prop :=
  ((List.range 256).filter fun n => (rowOf (BitVec.ofNat 8 n)).documented).length = 151 ∧
  ((List.range 256).filter fun n => !(rowOf (BitVec.ofNat 8 n)).documented &&
    decide ((rowOf (BitVec.ofNat 8 n)).mnemonic ≠ .invalid)).length = 64 ∧
  (∀ op : Byte, (rowOf op).mnemonic = .invalid ↔
    op ∈ ([0x02, 0x12, 0x22, 0x32, 0x42, 0x52, 0x62, 0x72, 0x92, 0xB2, 0xD2, 0xF2, 0x23, 0x27, 0x2F, 0x33, 0x37,
      0x3B, 0x3F, 0x43, 0x47, 0x4F, 0x53, 0x57, 0x5B, 0x5F, 0x63, 0x67, 0x6F, 0x73, 0x77, 0x7B, 0x7F, 0x93, 0x9F,
      0x9B, 0x9C, 0x9E, 0xAB, 0xBB, 0xEB] : List Byte)) ∧
  (∀ op : Byte, (rowOf op).pageSensitive = true ↔ (rowOf op).effect = some .read ∧
    ((rowOf op).mode = .absoluteX ∨ (rowOf op).mode = .absoluteY ∨ (rowOf op).mode = .postIndexed)) ∧
  (∀ i : Instr, (i.wellFormed = true ↔ i.mnemonic ≠ .invalid) ∧
    (encode i).length =
      match i.mode with
      | .implied | .opcodeOnly => 1
      | .immediate | .zeroPage | .zeroPageX | .zeroPageY | .preIndexed | .postIndexed | .relative => 2
      | .absolute | .absoluteX | .absoluteY | .indirect => 3)

/-! ### Steps -/

/-- When the bytes at PC are plain memory and decode to an instruction i, a step is i's execution from the state
after the fetch cycles of its bytes, then the closing of the record and the drain of stall cycles (40_addressing.md
R140, 64_scheduler.md R494). The fetch leaves everything as it was but PC, which it moves past the bytes fetched,
and the record of the instruction in progress: PC is advanced by as many modulo 2^16, and an increment from $FFFF to 0,
and nothing else, appends ProgramCounterCycled to the reports (10_state.md R32, 60_exceptions.md R304). -/
def Obligations.StepRunsTheDecodedInstruction : Prop :=
  ∀ (s : State) (i : Instr) (rest : List Byte), s.fault = none → NoInterrupt s → Ready s →
    decode (plainBytes s) = .ok (i, rest) →
    ∃ s1, fetchInstr (startStep s) = .next (i, s1) ∧
      step s = andThen (exec i s1) (fun t => stall (closeRecord t)) ∧
      Frame (State.incPc^[pcAdvance i] s) s1 ∧ s1.pc = BitVec.ofNat 16 (s.pc.toNat + pcAdvance i) ∧
      s1.reports = s.reports ++ (if s.pc.toNat + pcAdvance i < 65536 then [] else [.programCounterCycled]) ∧
      s1.cur = { LastResult.blank with
        address := s.pc, opcode := i.opcode, defn := some (rowOf i.opcode), cycles := fetchCycles i }

/-- The reset state meets the invariant of step boundaries. It holds of the model's choice of the values that the
spec leaves open at reset (logs 1, 2, 3): with another choice of RDY, the first read cycle may stall. -/
def Obligations.ResetStateMeetsTheInvariant : Prop := Inv State.reset

/-- Every step keeps the invariant: RDY high and no cycle halted at the boundary, no fault, empty inboxes, one slot
a tag in the delay queue, delays from 1 to PF_DELAY, in pf0 and ctrlpf the bits that 62_tia_objects.md R380 stores of the
last value written, prescale from 1 to the divisor, expired set whenever expired_now is, memory in canonical form
(10_state.md R60, R66; 63_riot.md R453, R456; 64_scheduler.md R492, R494). That halted_for_rdy is 0 after the drain is
the model's reading (log 15), that the last value written stands beside the stored bits is the model's too (log 9), and
the form of memory is the model's own. -/
def Obligations.EveryStepKeepsTheInvariant : Prop :=
  ∀ s t : State, Inv s → step s = .next t → Inv t

/-- From a state that meets the invariant a step always completes, but for InvalidOpcode on one of the 41 opcodes:
no inbox is ever found full and no delay queue ever overflows (60_exceptions.md R300, R301; 20_memory.md R86), and a
machine that has faulted takes no step (10_state.md R37). -/
def Obligations.OnlyInvalidOpcodesFault : Prop :=
  ∀ s : State, Inv s →
    (∃ t, step s = .next t) ∨
    ∃ op t, step s = .fault (.invalidOpcode op t) ∧ (rowOf op).mnemonic = .invalid ∧
      t.fault = some (.invalidOpcode op) ∧ step t = .refused (.machineFaulted (.invalidOpcode op))

/-- What a CPU cycle is. Its tick: cart.step, one RIOT step, then TIA steps with service on, off and on, one signal record
each, and nothing else (64_scheduler.md R490). A read cycle: the stall, if RDY is 0, then the byte of the chip selected,
as the last tick left the chips, and the access's side effects, then the tick (20_memory.md R87, R90; R493). A write
cycle: the access, then the tick, whatever RDY is (R86, R493). A stall cycle: halted_for_rdy set, then a tick with no
access (R493). A host's cartridge: cart.read or cart.write if it is selected, then cart.listen, at every access of the bus
(R86, R87, R88); that its state is held as a number is the model's form (log 4). So a step's records are three for each of
its CPU cycles, stall cycles included, and cpu_cycle_count grows by those cycles (R495). -/
def Obligations.CpuCyclesAndTheirTicks : Prop :=
  (∀ s : State, s.tia.tags.Nodup →
    ∃ t pin p1 p2 p3 t1 t2 g1 g2 g3, tick s = .next t ∧
      tiaStep true (Prod.fst p1) (Prod.snd p1) s.tia = .ok (t1, g1) ∧
      tiaStep false (Prod.fst p2) (Prod.snd p2) t1 = .ok (t2, g2) ∧
      tiaStep true (Prod.fst p3) (Prod.snd p3) t2 = .ok (t.tia, g3) ∧ t.riot = riotStep pin s.riot ∧
      (s.cart = .rom → t.cart = .rom) ∧ (∀ n, s.cart = .host n → t.cart = .host (Config.cartStep n)) ∧
      t.signals = g3 :: g2 :: g1 :: s.signals ∧ t.cycleCount = s.cycleCount + 1 ∧
      t.stepCycles = s.stepCycles + 1 ∧ SameCpu s t ∧ t.mem = s.mem ∧ t.halted = s.halted ∧ t.cur = s.cur) ∧
  (∀ (s : State) (a : Word), Ready s →
    ∃ s1 t, stall s = .next s1 ∧ (s.tia.rdy = true → s1 = s.setHalted false) ∧
      memRead a s = .next (readValue (busAddr a) s1, t) ∧ tick (afterRead a s1).noteCycle = .next t) ∧
  (∀ (s : State) (a : Word) (v : Byte), Ready s →
    ∃ t, memWrite a v s = .next t ∧ tick (afterWrite a v s).noteCycle = .next t) ∧
  (∀ s : State, Ready s → s.tia.rdy = false →
    ∃ t, tick (s.setHalted true) = .next t ∧ stall s = stall t) ∧
  (∀ (s : State) (a : Word) (n : Nat) (w : Byte), s.cart = .host n →
    (∀ off, chipSelect (busAddr a) = .cart off →
      readValue (busAddr a) s = (Config.cartRead n off).1 ∧
      (afterRead a s).cart =
        .host (Config.cartListen (Config.cartRead n off).2 (busAddr a) (Config.cartRead n off).1) ∧
      (afterWrite a w s).cart = .host (Config.cartListen (Config.cartWrite n off w) (busAddr a) w)) ∧
    ((∀ off, chipSelect (busAddr a) ≠ .cart off) →
      (afterRead a s).cart = .host (Config.cartListen n (busAddr a) (readValue (busAddr a) s)) ∧
      (afterWrite a w s).cart = .host (Config.cartListen n (busAddr a) w))) ∧
  (∀ s t : State, Inv s → step s = .next t →
    t.signals.length = 3 * t.stepCycles ∧ t.cycleCount = s.cycleCount + t.stepCycles)

/-- The interrupt check at a boundary: a pending NMI first, whatever I is, then an IRQ if I is 0, else an
instruction (60_exceptions.md R310, R312); a machine with fault set takes no step (10_state.md R37). No step asserts
an interrupt line or makes an NMI pending (R311). That I is read as it stands at the boundary, with no delay after a
CLI, is the model's choice of R310 over 45_flags_nop.md R242 (log 8); that the lines stay as they are through a step is
the model's choice too (log 7). -/
def Obligations.InterruptCheckOrder : Prop :=
  ∀ s : State,
    (∀ k, s.fault = some k → step s = .refused (.machineFaulted k)) ∧
    (s.fault = none → s.nmiPending = true →
      step s = andThen (interruptEntry 0xFFFA { startStep s with nmiPending := false }) stall) ∧
    (s.fault = none → s.nmiPending = false → s.irqLine = true → s.p.i = false →
      step s = andThen (interruptEntry 0xFFFE (startStep s)) stall) ∧
    (s.fault = none → s.nmiPending = false → (s.irqLine = false ∨ s.p.i = true) →
      step s = andThen (runInstr (startStep s)) stall) ∧
    (∀ t, Inv s → step s = .next t →
      t.irqLine = s.irqLine ∧ t.nmiLine = s.nmiLine ∧ t.nmiPending = false)

/-- The record's cycle count is the opcode map's, with one more cycle exactly when a page-sensitive READ crosses a
page; a branch takes up to two more, two exactly when it crosses a page (40_addressing.md R162, R163; 46_control.md
R250; 10_state.md R40). -/
def Obligations.CyclesAreTheTablesCycles : Prop :=
  ∀ s t : State, Inv s → NoInterrupt s → step s = .next t →
    ((rowOf t.last.opcode).mode ≠ .relative →
      t.last.cycles = (rowOf t.last.opcode).cycles +
        ((rowOf t.last.opcode).pageSensitive && t.last.pageCrossed).toNat) ∧
    ((rowOf t.last.opcode).mode = .relative →
      ∃ k, k ≤ 2 ∧ t.last.cycles = (rowOf t.last.opcode).cycles + k ∧ (k = 2 ↔ t.last.pageCrossed = true))

/-- The last-result record names the instruction that ran, and an interrupt entry does not rewrite it
(40_addressing.md R140; 10_state.md R40; 60_exceptions.md R306, R315). Of an undocumented opcode the bug field is
LateNVFlags exactly if the open parameter NV_BUG_OPCODES names it. -/
def Obligations.LastResultRecordsTheInstruction : Prop :=
  (∀ (s t : State) (i : Instr) (rest : List Byte), Inv s → NoInterrupt s → decode (plainBytes s) = .ok (i, rest) →
    step s = .next t →
    t.last.address = s.pc ∧ t.last.opcode = i.opcode ∧ t.last.defn = some (rowOf i.opcode) ∧
      t.last.final = true ∧
      (∀ imm, i.operand = .source (.immediate imm) → t.last.operand = some imm ∧ t.last.ea = none) ∧
      ((rowOf i.opcode).documented = false →
        t.last.bug = if Config.nvBugOpcode i.opcode then .lateNVFlags else .none) ∧
      ((rowOf i.opcode).documented = true →
        ∀ ptr, i = .jmpInd ptr → loByte ptr = 0xFF → t.last.bug = .jmpIndirectPageWrap) ∧
      ((rowOf i.opcode).documented = true →
        (∀ ptr, i = .jmpInd ptr → loByte ptr ≠ 0xFF) → t.last.bug = .none)) ∧
  (∀ s t : State, Inv s → ¬ NoInterrupt s → step s = .next t → t.last = s.last)

/-- The state at each fault. The 41 invalid opcodes: exec raises InvalidOpcode with the opcode; a step that fetches one
raises it after the fetch cycle with its tick, with PC one past the opcode, A, X, Y, SP and P unchanged, and the last
result as it was but for final = 0 (60_exceptions.md R301). UnservicedChipWrite, of a write that finds its chip's inbox
full, comes before the access and the tick: everything is as it was (R303). DelayQueueFull, in the tick of a write cycle
or of a read cycle, leaves the TIA as it was at the schedule call that found no slot (R303), and all else as at the start
of the cycle (00_scope.md R12); that a read cycle starts after its stall is the model's reading (log 25). -/
def Obligations.FaultStates : Prop :=
  (∀ (i : Instr) (s : State), i.wellFormed = false →
    exec i s = .fault (.invalidOpcode i.opcode
      { s with fault := some (.invalidOpcode i.opcode), last := { s.last with final := false } })) ∧
  (∀ (s s1 : State) (op : Byte), Inv s → NoInterrupt s → fetchOpcode (startStep s) = .next (op, s1) →
    (rowOf op).mnemonic = .invalid →
    ∃ t, step s = .fault (.invalidOpcode op t) ∧
      t.pc = s.pc + 1 ∧ t.a = s.a ∧ t.x = s.x ∧ t.y = s.y ∧ t.sp = s.sp ∧ t.p = s.p ∧
      t.last = { s.last with final := false } ∧ t.fault = some (.invalidOpcode op) ∧
      t.mem = s.mem ∧ t.cycleCount = s.cycleCount + 1 ∧ t.signals.length = 3) ∧
  (∀ (s : State) (addr : Word) (v : Byte),
    (chipSelect (busAddr addr) = .tia ∧ s.tia.inbox ≠ none) ∨
      (chipSelect (busAddr addr) = .riot ∧ s.riot.inbox ≠ none) →
    memWrite addr v s = .fault (.unservicedChipWrite (busAddr addr)
      { s with fault := some (.unservicedChipWrite (busAddr addr)) })) ∧
  (∀ (s t : State) (addr : Word) (v : Byte) (tag : Tag), memWrite addr v s = .fault (.delayQueueFull tag t) →
    t = { s with tia := t.tia, fault := some (.delayQueueFull tag) } ∧
    ∃ n ev, ev.tag = tag ∧ schedule n ev t.tia = .error ⟨tag, t.tia⟩) ∧
  (∀ (s s1 t : State) (addr : Word) (tag : Tag), stall s = .next s1 →
    memRead addr s = .fault (.delayQueueFull tag t) →
    t = { s1 with tia := t.tia, fault := some (.delayQueueFull tag) } ∧
    ∃ n ev, ev.tag = tag ∧ schedule n ev t.tia = .error ⟨tag, t.tia⟩)

/-! ### Loads, stores, transfers, the stack -/

/-- LDA, LDX, LDY and LAX complete in every mode: the byte read goes to the register, N and Z come from it, and
nothing else changes (41_load_store.md R180, R181, R182, R186; 47_undocumented.md R275). -/
def Obligations.LoadsPutTheByteInTheRegister : Prop :=
  ∀ (s : State) (i : Instr) (src : Source), Ready s → i.operand = .source src →
    (i.mnemonic = .lda → ReadRuns i src s fun m s => (s.setA m).setP (withNZ s.p m)) ∧
    (i.mnemonic = .ldx → ReadRuns i src s fun m s => (s.setX m).setP (withNZ s.p m)) ∧
    (i.mnemonic = .ldy → ReadRuns i src s fun m s => (s.setY m).setP (withNZ s.p m)) ∧
    (i.mnemonic = .lax → ReadRuns i src s fun m s => ((s.setA m).setX m).setP (withNZ s.p m))

/-- STA, STX, STY and SAX complete in every mode: they store A, X, Y and A AND X at the operand's address, and
change no register and no flag (41_load_store.md R183, R184, R185; 47_undocumented.md R276). -/
def Obligations.StoresStoreTheRegister : Prop :=
  ∀ (s : State) (i : Instr) (m : MemMode), Ready s → s.mem.wf = true → i.operand = .memory m →
    (i.mnemonic = .sta → WriteRuns i m s s.a) ∧
    (i.mnemonic = .stx → WriteRuns i m s s.x) ∧
    (i.mnemonic = .sty → WriteRuns i m s s.y) ∧
    (i.mnemonic = .sax → WriteRuns i m s (s.a &&& s.x))

/-- The register transfers, increments and decrements complete in one cycle after their fetch; TXS writes no flag
(42_transfer_stack.md R190 to R195; 43_arith_logic.md R221 to R224). -/
def Obligations.TransfersAndCounts : Prop :=
  ∀ (s : State), Ready s →
    ImpliedRuns .tax s ((s.setX s.a).setP (withNZ s.p s.a)) ∧
    ImpliedRuns .tay s ((s.setY s.a).setP (withNZ s.p s.a)) ∧
    ImpliedRuns .txa s ((s.setA s.x).setP (withNZ s.p s.x)) ∧
    ImpliedRuns .tya s ((s.setA s.y).setP (withNZ s.p s.y)) ∧
    ImpliedRuns .tsx s ((s.setX s.sp).setP (withNZ s.p s.sp)) ∧
    ImpliedRuns .txs s (s.setSp s.x) ∧
    ImpliedRuns .inx s ((s.setX (s.x + 1)).setP (withNZ s.p (s.x + 1))) ∧
    ImpliedRuns .iny s ((s.setY (s.y + 1)).setP (withNZ s.p (s.y + 1))) ∧
    ImpliedRuns .dex s ((s.setX (s.x - 1)).setP (withNZ s.p (s.x - 1))) ∧
    ImpliedRuns .dey s ((s.setY (s.y - 1)).setP (withNZ s.p (s.y - 1)))

/-- PHA and PHP complete: after a dummy read of PC, a write cycle stores A, or P with bits 5 and 4 set, at $0100 + SP,
and SP falls by 1; no register else and no flag changes (42_transfer_stack.md R196, R197; 10_state.md R31, R33). That the
byte pushed is noted as the record's operand is the model's choice (log 10). -/
def Obligations.PushesStoreAndLowerSp : Prop :=
  ∀ (s : State), Ready s → s.mem.wf = true →
    ∃ s1, dummyRead s.pc s = .next s1 ∧
      ∀ i v, (i = .pha ∧ v = s.a) ∨ (i = .php ∧ v = flagByte s.p true) →
        ∃ u t, memWrite (0x0100 + zext16 s.sp) v (s1.noteOperand v) = .next u ∧ exec i s = .next t ∧
          SameBus u t ∧ SameCpu (s.setSp (s.sp - 1)) t ∧ Stored (0x0100 + zext16 s.sp) v s t ∧
          t.cur.cycles = s.cur.cycles + 2

/-- PLA and PLP complete: after dummy reads of PC and of $0100 + SP, SP grows by 1 and the byte that the read
cycle at the new $0100 + SP answers goes to A with N and Z from it, or gives all seven flags (42_transfer_stack.md
R198, R199; 10_state.md R31, R33). -/
def Obligations.PullsRaiseSp : Prop :=
  ∀ (s : State), Ready s →
    ∃ s1 s2 v s3, dummyRead s.pc s = .next s1 ∧ dummyRead (0x0100 + zext16 s.sp) s1 = .next s2 ∧
      memRead (0x0100 + zext16 (s.sp + 1)) s2 = .next (v, s3) ∧
      (∀ b, plainByte s (0x0100 + zext16 (s.sp + 1)) = some b → v = b) ∧
      (∃ t, exec .pla s = .next t ∧ SameBus s3 t ∧ Frame (((s.setSp (s.sp + 1)).setA v).setP (withNZ s.p v)) t ∧
        t.cur.cycles = s.cur.cycles + 3) ∧
      (∃ t, exec .plp s = .next t ∧ SameBus s3 t ∧ Frame ((s.setSp (s.sp + 1)).setP (flagsOf v)) t ∧
        t.cur.cycles = s.cur.cycles + 3)

/-! ### Arithmetic, logic, shifts -/

/-- ADC and SBC complete in every mode: A, N, V, Z and C become what Add and Sub give for A, the operand, C and D;
nothing else changes (43_arith_logic.md R205, R206, R210, R211). -/
def Obligations.AddAndSubtractRun : Prop :=
  ∀ (s : State) (i : Instr) (src : Source), Ready s → i.operand = .source src →
    (i.mnemonic = .adc → ReadRuns i src s fun m s =>
      (s.setA (addWith s.a m s.p.c s.p.d).r).setP
        { s.p with
          n := (addWith s.a m s.p.c s.p.d).n, v := (addWith s.a m s.p.c s.p.d).v
          z := (addWith s.a m s.p.c s.p.d).z, c := (addWith s.a m s.p.c s.p.d).c }) ∧
    (i.mnemonic = .sbc → ReadRuns i src s fun m s =>
      (s.setA (subWith s.a m s.p.c s.p.d).r).setP
        { s.p with
          n := (subWith s.a m s.p.c s.p.d).n, v := (subWith s.a m s.p.c s.p.d).v
          z := (subWith s.a m s.p.c s.p.d).z, c := (subWith s.a m s.p.c s.p.d).c })

/-- Binary Add and Sub as arithmetic: the result is the sum or difference modulo 256, C is the carry out or no
borrow, V says that the signed result does not fit, N and Z describe the result; the flags of Sub are the same in
decimal mode (43_arith_logic.md R205, R206). -/
def Obligations.BinaryArithmeticIsExact : Prop :=
  ∀ (a m : Byte) (c : Bool),
    addWith a m c false =
      { r := BitVec.ofNat 8 (a.toNat + m.toNat + c.toNat)
        n := decide (128 ≤ (a.toNat + m.toNat + c.toNat) % 256)
        v := decide (a.toInt + m.toInt + c.toNat < -128 ∨ 127 < a.toInt + m.toInt + c.toNat)
        z := decide ((a.toNat + m.toNat + c.toNat) % 256 = 0)
        c := decide (255 < a.toNat + m.toNat + c.toNat) } ∧
    subWith a m c false =
      { r := BitVec.ofInt 8 (a.toNat - m.toNat - (!c).toNat)
        n := decide (((a.toNat : Int) - m.toNat - (!c).toNat) % 256 ≥ 128)
        v := decide (a.toInt - m.toInt - (!c).toNat < -128 ∨ 127 < a.toInt - m.toInt - (!c).toNat)
        z := decide (((a.toNat : Int) - m.toNat - (!c).toNat) % 256 = 0)
        c := decide (m.toNat + (!c).toNat ≤ a.toNat) } ∧
    { subWith a m c true with r := 0 } = { subWith a m c false with r := 0 }

/-- Decimal Add and Sub of valid BCD operands are decimal arithmetic, C being the decimal carry or no borrow. The NMOS
flags of Add, for all operands: Z from the binary sum, N from bit 7 and V from the signed reading of the sum before
its high digit is adjusted. $99 + $01 gives $00 with C = 1, Z = 0, N = 1 (43_arith_logic.md R205, R206, R210). The
flags of Sub in decimal mode are those of binary mode: BinaryArithmeticIsExact. -/
def Obligations.DecimalArithmeticIsBcd : Prop :=
  (∀ (a m : Byte) (c : Bool), a.toNat % 16 < 10 → a.toNat / 16 < 10 → m.toNat % 16 < 10 → m.toNat / 16 < 10 →
    (let sum := 10 * (a.toNat / 16) + a.toNat % 16 + (10 * (m.toNat / 16) + m.toNat % 16) + c.toNat
     (addWith a m c true).r = BitVec.ofNat 8 (16 * (sum % 100 / 10) + sum % 10) ∧
       (addWith a m c true).c = decide (100 ≤ sum)) ∧
    (let diff : Int := 10 * (a.toNat / 16) + a.toNat % 16 - (10 * (m.toNat / 16) + m.toNat % 16) - (!c).toNat
     (subWith a m c true).r = BitVec.ofInt 8 (16 * (diff % 100 / 10) + diff % 10) ∧
       (subWith a m c true).c = decide (0 ≤ diff))) ∧
  (∀ (a m : Byte) (c : Bool),
    let digit := a.toNat % 16 + m.toNat % 16 + c.toNat
    let al := if 10 ≤ digit then (digit + 6) % 16 + 16 else digit
    let s := 16 * (a.toNat / 16) + 16 * (m.toNat / 16) + al
    let ss : Int := (a &&& 0xF0).toInt + (m &&& 0xF0).toInt + al
    (addWith a m c true).n = decide (128 ≤ s % 256) ∧
    (addWith a m c true).v = decide (ss < -128 ∨ 127 < ss) ∧
    (addWith a m c true).z = decide ((a.toNat + m.toNat + c.toNat) % 256 = 0)) ∧
  addWith 0x99 0x01 false true = { r := 0x00, n := true, v := false, z := false, c := true }

/-- AND, ORA, EOR and BIT complete in every mode. BIT changes no register: N and V are bits 7 and 6 of the operand,
Z tests A AND the operand (43_arith_logic.md R212 to R215). -/
def Obligations.LogicAndBitRun : Prop :=
  ∀ (s : State) (i : Instr) (src : Source), Ready s → i.operand = .source src →
    (i.mnemonic = .and → ReadRuns i src s fun m s => (s.setA (s.a &&& m)).setP (withNZ s.p (s.a &&& m))) ∧
    (i.mnemonic = .ora → ReadRuns i src s fun m s => (s.setA (s.a ||| m)).setP (withNZ s.p (s.a ||| m))) ∧
    (i.mnemonic = .eor → ReadRuns i src s fun m s => (s.setA (s.a ^^^ m)).setP (withNZ s.p (s.a ^^^ m))) ∧
    (i.mnemonic = .bit → ReadRuns i src s fun m s =>
      s.setP { s.p with n := m.getLsbD 7, v := m.getLsbD 6, z := decide (s.a &&& m = 0) })

/-- CMP, CPX and CPY complete in every mode: N, Z and C from the comparison, C being register ≥ operand unsigned;
no register changes, in either decimal mode (43_arith_logic.md R207, R216 to R218). -/
def Obligations.ComparesRun : Prop :=
  ∀ (s : State) (i : Instr) (src : Source), Ready s → i.operand = .source src →
    (i.mnemonic = .cmp → ReadRuns i src s fun m s => s.setP (withCompare s.p s.a m)) ∧
    (i.mnemonic = .cpx → ReadRuns i src s fun m s => s.setP (withCompare s.p s.x m)) ∧
    (i.mnemonic = .cpy → ReadRuns i src s fun m s => s.setP (withCompare s.p s.y m))

/-- INC and DEC complete in every mode: the byte is read, stored back, and stored plus or minus 1; N and Z come
from the new byte (43_arith_logic.md R219, R220; 40_addressing.md R160). -/
def Obligations.IncrementAndDecrementRun : Prop :=
  ∀ (s : State) (i : Instr) (m : MemMode), Ready s → s.mem.wf = true → i.operand = .memory m →
    (i.mnemonic = .inc → ModifyRuns i m s (fun v => v + 1) fun v s => s.setP (withNZ s.p (v + 1))) ∧
    (i.mnemonic = .dec → ModifyRuns i m s (fun v => v - 1) fun v s => s.setP (withNZ s.p (v - 1)))

/-- The accumulator forms of the shifts complete in one cycle after their fetch, as arithmetic on A and C
(44_shift_rotate.md R230 to R233; 40_addressing.md R141). -/
def Obligations.AccumulatorShiftsRun : Prop :=
  ∀ (s : State), Ready s →
    ImpliedRuns .aslAcc s ((s.setA (BitVec.ofNat 8 (2 * s.a.toNat))).setP
      { withNZ s.p (BitVec.ofNat 8 (2 * s.a.toNat)) with c := decide (128 ≤ s.a.toNat) }) ∧
    ImpliedRuns .lsrAcc s ((s.setA (BitVec.ofNat 8 (s.a.toNat / 2))).setP
      { withNZ s.p (BitVec.ofNat 8 (s.a.toNat / 2)) with n := false, c := decide (s.a.toNat % 2 = 1) }) ∧
    ImpliedRuns .rolAcc s ((s.setA (BitVec.ofNat 8 (2 * s.a.toNat + s.p.c.toNat))).setP
      { withNZ s.p (BitVec.ofNat 8 (2 * s.a.toNat + s.p.c.toNat)) with c := decide (128 ≤ s.a.toNat) }) ∧
    ImpliedRuns .rorAcc s ((s.setA (BitVec.ofNat 8 (s.a.toNat / 2 + 128 * s.p.c.toNat))).setP
      { withNZ s.p (BitVec.ofNat 8 (s.a.toNat / 2 + 128 * s.p.c.toNat)) with
        n := s.p.c, c := decide (s.a.toNat % 2 = 1) })

/-- The memory forms of the shifts complete in every mode, as arithmetic on the byte and C (44_shift_rotate.md R230
to R233; 40_addressing.md R160). -/
def Obligations.MemoryShiftsRun : Prop :=
  ∀ (s : State) (i : Instr) (m : MemMode), Ready s → s.mem.wf = true → i.operand = .memory m →
    (i.mnemonic = .asl → ModifyRuns i m s (fun v => BitVec.ofNat 8 (2 * v.toNat)) fun v s =>
      s.setP { withNZ s.p (BitVec.ofNat 8 (2 * v.toNat)) with c := decide (128 ≤ v.toNat) }) ∧
    (i.mnemonic = .lsr → ModifyRuns i m s (fun v => BitVec.ofNat 8 (v.toNat / 2)) fun v s =>
      s.setP { withNZ s.p (BitVec.ofNat 8 (v.toNat / 2)) with n := false, c := decide (v.toNat % 2 = 1) }) ∧
    (i.mnemonic = .rol → ModifyRuns i m s (fun v => BitVec.ofNat 8 (2 * v.toNat + s.p.c.toNat)) fun v s =>
      s.setP { withNZ s.p (BitVec.ofNat 8 (2 * v.toNat + s.p.c.toNat)) with c := decide (128 ≤ v.toNat) }) ∧
    (i.mnemonic = .ror → ModifyRuns i m s (fun v => BitVec.ofNat 8 (v.toNat / 2 + 128 * s.p.c.toNat)) fun v s =>
      s.setP { withNZ s.p (BitVec.ofNat 8 (v.toNat / 2 + 128 * s.p.c.toNat)) with
        n := s.p.c, c := decide (v.toNat % 2 = 1) })

/-! ### Flags, NOP, control -/

/-- The seven flag instructions complete in one cycle after their fetch and change their flag alone (45_flags_nop.md
R240 to R246). NOP in all its 28 forms completes and changes no register, flag or memory: the implied ones take one
cycle after their fetch, the others make the accesses of their mode, and what those leave is the next state (R247;
47_undocumented.md R285). -/
def Obligations.FlagInstructionsAndNopsRun : Prop :=
  ∀ (s : State), Ready s →
    ImpliedRuns .clc s (s.setP { s.p with c := false }) ∧
    ImpliedRuns .sec s (s.setP { s.p with c := true }) ∧
    ImpliedRuns .cli s (s.setP { s.p with i := false }) ∧
    ImpliedRuns .sei s (s.setP { s.p with i := true }) ∧
    ImpliedRuns .cld s (s.setP { s.p with d := false }) ∧
    ImpliedRuns .sed s (s.setP { s.p with d := true }) ∧
    ImpliedRuns .clv s (s.setP { s.p with v := false }) ∧
    ∀ i : Instr, i.mnemonic = .nop →
      (i.operand = .implied → ImpliedRuns i s s) ∧
      (∀ src, i.operand = .source src →
        ∃ m s1, readSource src s = .next (m, s1) ∧ exec i s = .next s1 ∧ Frame s s1) ∧
      (i.operand = .implied ∨ ∃ src, i.operand = .source src)

/-- The eight branches complete, taken or not: PC moves by the signed offset if the condition holds, modulo 2^16
and with no report; not taken adds no cycle, taken one, a dummy read of PC, and taken across a page a second, a dummy
read of the target in PC's page (46_control.md R250 to R258). -/
def Obligations.BranchesRun : Prop :=
  ∀ (s : State) (i : Instr) (off : Byte) (cond : Bool), Ready s → i.operand = .relative off →
    (i.mnemonic, cond) ∈ [(.bcc, !s.p.c), (.bcs, s.p.c), (.beq, s.p.z), (.bne, !s.p.z), (.bmi, s.p.n),
      (.bpl, !s.p.n), (.bvc, !s.p.v), (.bvs, s.p.v)] →
    let target := BitVec.ofInt 16 (s.pc.toNat + off.toInt)
    let crosses := decide (hiByte target ≠ hiByte s.pc)
    ∃ t, exec i s = .next t ∧ Frame (if cond then s.setPc target else s) t ∧
      (cond = false → SameBus s t) ∧
      (cond = true → ∃ s1, dummyRead s.pc s = .next s1 ∧ (crosses = false → SameBus s1 t) ∧
        (crosses = true → ∃ s2, dummyRead (word (hiByte s.pc) (loByte target)) s1 = .next s2 ∧ SameBus s2 t)) ∧
      t.cur.cycles = s.cur.cycles + (if cond then 1 + crosses.toNat else 0) ∧
      t.cur.pageCrossed = (s.cur.pageCrossed || (cond && crosses))

/-- JMP completes in both modes: absolute goes to its operand; indirect goes to the word whose low byte is read at
the pointer and whose high byte is read at the next address of the same page, in two cycles after the fetch; a
pointer $xxFF is reported as JmpIndirectPageWrap (46_control.md R259; 40_addressing.md R151). -/
def Obligations.JumpsRun : Prop :=
  ∀ (s : State) (w : Word), Ready s →
    (∃ t, exec (.jmpAbs w) s = .next t ∧ SameBus s t ∧ Frame (s.setPc w) t ∧ t.cur.cycles = s.cur.cycles) ∧
    (∃ lo s1 hi s2 t, memRead w s = .next (lo, s1) ∧
      memRead (word (hiByte w) (loByte w + 1)) s1 = .next (hi, s2) ∧
      (∀ b, plainByte s w = some b → lo = b) ∧
      (∀ b, plainByte s (word (hiByte w) (loByte w + 1)) = some b → hi = b) ∧
      exec (.jmpInd w) s = .next t ∧ SameBus s2 t ∧ Frame (s.setPc (word hi lo)) t ∧
      t.cur.cycles = s.cur.cycles + 2 ∧
      t.cur.bug = if loByte w = 0xFF then .jmpIndirectPageWrap else .none)

/-- JSR completes from its cycle 3, PC being at its last byte: after a dummy read of $0100 + SP, write cycles store the
high then the low byte of PC at $0100 + SP and $0100 + SP - 1, SP falls by 2, and PC becomes the word of the low operand
byte and the byte that the read cycle at PC answers after the pushes; four cycles after those fetched (46_control.md
R260). -/
def Obligations.JsrRuns : Prop :=
  ∀ (s : State) (w : Word), Ready s → s.mem.wf = true →
    ∃ s1 u v hi x t, dummyRead (0x0100 + zext16 s.sp) s = .next s1 ∧
      memWrite (0x0100 + zext16 s.sp) (hiByte s.pc) s1 = .next u ∧
      memWrite (0x0100 + zext16 (s.sp - 1)) (loByte s.pc) (u.setSp (s.sp - 1)) = .next v ∧
      memRead s.pc (v.setSp (s.sp - 2)) = .next (hi, x) ∧ (∀ b, plainByte v s.pc = some b → hi = b) ∧
      Stored (0x0100 + zext16 s.sp) (hiByte s.pc) s u ∧
      Stored (0x0100 + zext16 (s.sp - 1)) (loByte s.pc) u v ∧ SameCpu (s.setSp (s.sp - 1)) v ∧
      exec (.jsr w) s = .next t ∧ SameBus x t ∧ Frame ((v.setSp (s.sp - 2)).setPc (word hi (loByte w))) t ∧
      t.cur.cycles = s.cur.cycles + 4

/-- RTS completes: after dummy reads of PC and of $0100 + SP, the low and high bytes are read at the next two
addresses of the stack, SP grows by 2, a dummy read is made at their word, and PC becomes that word plus 1, as an
increment of PC, so that from $FFFF it becomes 0 and ProgramCounterCycled is reported, and else nothing is; five cycles
after the fetch (46_control.md R261; 60_exceptions.md R304). -/
def Obligations.RtsRuns : Prop :=
  ∀ (s : State), Ready s →
    ∃ s1 s2 lo s3 hi s4 s5 t, dummyRead s.pc s = .next s1 ∧ dummyRead (0x0100 + zext16 s.sp) s1 = .next s2 ∧
      memRead (0x0100 + zext16 (s.sp + 1)) s2 = .next (lo, s3) ∧
      memRead (0x0100 + zext16 (s.sp + 2)) (s3.setSp (s.sp + 1)) = .next (hi, s4) ∧
      dummyRead (word hi lo) (s4.setSp (s.sp + 2)) = .next s5 ∧
      (∀ b, plainByte s (0x0100 + zext16 (s.sp + 1)) = some b → lo = b) ∧
      (∀ b, plainByte s (0x0100 + zext16 (s.sp + 2)) = some b → hi = b) ∧
      exec .rts s = .next t ∧ SameBus s5 t ∧ Frame ((s.setSp (s.sp + 2)).setPc (word hi lo)).incPc t ∧
      t.pc = word hi lo + 1 ∧
      t.reports = s.reports ++ (if word hi lo = 0xFFFF then [.programCounterCycled] else []) ∧
      t.cur.cycles = s.cur.cycles + 5

/-- BRK completes by taking its interrupt: the byte at PC is skipped, after a dummy read, which is reported if PC goes
from $FFFF to 0 (60_exceptions.md R304); write cycles store the high and low bytes of that PC and P with B' = 1 on the
stack, SP falls by 3, I becomes 1 and the other flags stay, and PC becomes the word at $FFFE; six cycles after the fetch
(46_control.md R262). -/
def Obligations.BrkRuns : Prop :=
  ∀ (s : State), Ready s → s.mem.wf = true →
    ∃ s1 u v w lo x hi y t, dummyRead s.pc s = .next s1 ∧
      memWrite (0x0100 + zext16 s.sp) (hiByte (s.pc + 1)) s1.incPc = .next u ∧
      memWrite (0x0100 + zext16 (s.sp - 1)) (loByte (s.pc + 1)) (u.setSp (s.sp - 1)) = .next v ∧
      memWrite (0x0100 + zext16 (s.sp - 2)) (flagByte s.p true) (v.setSp (s.sp - 2)) = .next w ∧
      memRead 0xFFFE (w.setSp (s.sp - 3)) = .next (lo, x) ∧
      memRead 0xFFFF (x.setP { s.p with i := true }) = .next (hi, y) ∧
      Stored (0x0100 + zext16 s.sp) (hiByte (s.pc + 1)) s u ∧
      Stored (0x0100 + zext16 (s.sp - 1)) (loByte (s.pc + 1)) u v ∧
      Stored (0x0100 + zext16 (s.sp - 2)) (flagByte s.p true) v w ∧ SameCpu (s.incPc.setSp (s.sp - 2)) w ∧
      exec .brk s = .next t ∧ SameBus y t ∧
      Frame (((w.setSp (s.sp - 3)).setP { s.p with i := true }).setPc (word hi lo)) t ∧
      t.reports = s.reports ++ (if s.pc = 0xFFFF then [.programCounterCycled] else []) ∧
      t.cur.cycles = s.cur.cycles + 6

/-- RTI completes: after dummy reads of PC and of $0100 + SP, all seven flags come from the first byte pulled and
PC is the word of the next two, low byte first, with no increment; SP grows by 3; five cycles after the fetch
(46_control.md R263). -/
def Obligations.RtiRuns : Prop :=
  ∀ (s : State), Ready s →
    ∃ s1 s2 p s3 lo s4 hi s5 t, dummyRead s.pc s = .next s1 ∧ dummyRead (0x0100 + zext16 s.sp) s1 = .next s2 ∧
      memRead (0x0100 + zext16 (s.sp + 1)) s2 = .next (p, s3) ∧
      memRead (0x0100 + zext16 (s.sp + 2)) ((s3.setSp (s.sp + 1)).setP (flagsOf p)) = .next (lo, s4) ∧
      memRead (0x0100 + zext16 (s.sp + 3)) (s4.setSp (s.sp + 2)) = .next (hi, s5) ∧
      (∀ b, plainByte s (0x0100 + zext16 (s.sp + 1)) = some b → p = b) ∧
      (∀ b, plainByte s (0x0100 + zext16 (s.sp + 2)) = some b → lo = b) ∧
      (∀ b, plainByte s (0x0100 + zext16 (s.sp + 3)) = some b → hi = b) ∧
      exec .rti s = .next t ∧ SameBus s5 t ∧ Frame (((s.setSp (s.sp + 3)).setP (flagsOf p)).setPc (word hi lo)) t ∧
      t.cur.cycles = s.cur.cycles + 5

/-- The IRQ and NMI entries: two dummy reads of PC, then write cycles that store the high and low bytes of PC and P with
B' = 0 on the stack, SP lowered by 3, I set and the other flags as they were, and PC from the vector: seven cycles
(60_exceptions.md R315, R316). -/
def Obligations.InterruptEntryRuns : Prop :=
  ∀ (s : State) (vec : Word), (vec = 0xFFFE ∨ vec = 0xFFFA) → Ready s → s.mem.wf = true →
    ∃ s1 s2 u v w lo x hi y t, dummyRead s.pc s = .next s1 ∧ dummyRead s.pc s1 = .next s2 ∧
      memWrite (0x0100 + zext16 s.sp) (hiByte s.pc) s2 = .next u ∧
      memWrite (0x0100 + zext16 (s.sp - 1)) (loByte s.pc) (u.setSp (s.sp - 1)) = .next v ∧
      memWrite (0x0100 + zext16 (s.sp - 2)) (flagByte s.p false) (v.setSp (s.sp - 2)) = .next w ∧
      memRead vec (w.setSp (s.sp - 3)) = .next (lo, x) ∧
      memRead (vec + 1) (x.setP { s.p with i := true }) = .next (hi, y) ∧
      Stored (0x0100 + zext16 s.sp) (hiByte s.pc) s u ∧
      Stored (0x0100 + zext16 (s.sp - 1)) (loByte s.pc) u v ∧
      Stored (0x0100 + zext16 (s.sp - 2)) (flagByte s.p false) v w ∧ SameCpu (s.setSp (s.sp - 2)) w ∧
      interruptEntry vec s = .next t ∧ SameBus y t ∧
      Frame (((w.setSp (s.sp - 3)).setP { s.p with i := true }).setPc (word hi lo)) t ∧
      t.cur.cycles = s.cur.cycles + 7

/-! ### Undocumented opcodes -/

/-- DCP, ISC and SLO complete in every mode: DEC then CMP, INC then SBC in either decimal mode, ASL then ORA
(47_undocumented.md R277 to R279). -/
def Obligations.UndocumentedModifyRuns : Prop :=
  ∀ (s : State) (i : Instr) (m : MemMode), Ready s → s.mem.wf = true → i.operand = .memory m →
    (i.mnemonic = .dcp → ModifyRuns i m s (fun v => v - 1) fun v s => s.setP (withCompare s.p s.a (v - 1))) ∧
    (i.mnemonic = .isc → ModifyRuns i m s (fun v => v + 1) fun v s =>
      (s.setA (subWith s.a (v + 1) s.p.c s.p.d).r).setP
        { s.p with
          n := (subWith s.a (v + 1) s.p.c s.p.d).n, v := (subWith s.a (v + 1) s.p.c s.p.d).v
          z := (subWith s.a (v + 1) s.p.c s.p.d).z, c := (subWith s.a (v + 1) s.p.c s.p.d).c }) ∧
    (i.mnemonic = .slo → ModifyRuns i m s (fun v => BitVec.ofNat 8 (2 * v.toNat)) fun v s =>
      (s.setA (s.a ||| BitVec.ofNat 8 (2 * v.toNat))).setP
        { withNZ s.p (s.a ||| BitVec.ofNat 8 (2 * v.toNat)) with c := decide (128 ≤ v.toNat) })

/-- ANC, ALR, ARR and AXS complete. C of ANC is the new N, of ALR the bit shifted out, of AXS no borrow. ARR's C and
V are bit 6, and bits 6 and 5 exclusive or, of the rotated value; with D = 1 its N is the old C, Z and V come from
the rotated value, then the low and the high digit are adjusted, and C is the high adjustment (47_undocumented.md
R280, R281, R282, R284). -/
def Obligations.UndocumentedImmediateRuns : Prop :=
  ∀ (s : State) (i : Instr) (src : Source), Ready s → i.operand = .source src →
    (i.mnemonic = .anc → ReadRuns i src s fun m s =>
      (s.setA (s.a &&& m)).setP { withNZ s.p (s.a &&& m) with c := (s.a &&& m).getLsbD 7 }) ∧
    (i.mnemonic = .alr → ReadRuns i src s fun m s =>
      (s.setA (BitVec.ofNat 8 ((s.a &&& m).toNat / 2))).setP
        { withNZ s.p (BitVec.ofNat 8 ((s.a &&& m).toNat / 2)) with
          n := false, c := decide ((s.a &&& m).toNat % 2 = 1) }) ∧
    (i.mnemonic = .axs → ReadRuns i src s fun m s =>
      (s.setX ((s.a &&& s.x) - m)).setP
        { withNZ s.p ((s.a &&& s.x) - m) with c := decide (m.toNat ≤ (s.a &&& s.x).toNat) }) ∧
    (i.mnemonic = .arr → s.p.d = false → ReadRuns i src s fun m s =>
      let r : Byte := BitVec.ofNat 8 ((s.a &&& m).toNat / 2 + 128 * s.p.c.toNat)
      (s.setA r).setP
        { withNZ s.p r with c := r.getLsbD 6, v := r.getLsbD 6 != r.getLsbD 5 }) ∧
    (i.mnemonic = .arr → s.p.d = true → ReadRuns i src s fun m s =>
      let t := s.a &&& m
      let r : Byte := BitVec.ofNat 8 (t.toNat / 2 + 128 * s.p.c.toNat)
      let low : Byte :=
        if 5 < t.toNat % 16 + t.toNat % 2 then BitVec.ofNat 8 (16 * (r.toNat / 16) + (r.toNat + 6) % 16) else r
      let carry := decide (5 < t.toNat / 16 + t.toNat / 16 % 2)
      (s.setA (if carry then low + 0x60 else low)).setP
        { s.p with n := s.p.c, v := t.getLsbD 6 != r.getLsbD 6, z := decide (r = 0), c := carry })

/-- XAA completes: for some byte, which the spec leaves free, A becomes (A OR byte) AND X AND the immediate, with N
and Z from it. So the result is 0 if X AND the immediate is 0, and X AND the immediate if A is $FF, whatever the
byte (47_undocumented.md R283). -/
def Obligations.XaaRuns : Prop :=
  ∀ (s : State) (imm : Byte), Ready s →
    (∃ magic : Byte, ReadRuns (.xaaImm imm) (.immediate imm) s fun m s =>
      (s.setA ((s.a ||| magic) &&& s.x &&& m)).setP (withNZ s.p ((s.a ||| magic) &&& s.x &&& m))) ∧
    (∀ t, exec (.xaaImm imm) s = .next t →
      (s.x &&& imm = 0 → t.a = 0 ∧ t.p.z = true) ∧ (s.a = 0xFF → t.a = s.x &&& imm))

/-! ### Rules of the whole instruction set -/

/-- Who writes what: whatever instruction completes, a flag or a register of the CPU changes only if the
instruction is one of its writers (10_state.md R30, R31, R34). -/
def Obligations.OnlyListedInstructionsWrite : Prop :=
  ∀ (i : Instr) (s t : State), Ready s → exec i s = .next t →
    (t.p.n ≠ s.p.n ∨ t.p.z ≠ s.p.z → i.mnemonic ∈ [.adc, .sbc, .and, .ora, .eor, .lda, .ldx, .ldy, .inc, .dec, .inx,
      .iny, .dex, .dey, .tax, .tay, .txa, .tya, .tsx, .pla, .asl, .lsr, .rol, .ror, .cmp, .cpx, .cpy, .bit, .plp,
      .rti, .lax, .dcp, .isc, .slo, .anc, .alr, .arr, .xaa, .axs]) ∧
    (t.p.v ≠ s.p.v → i.mnemonic ∈ [.adc, .sbc, .bit, .clv, .plp, .rti, .isc, .arr]) ∧
    (t.p.b ≠ s.p.b → i.mnemonic ∈ [.plp, .rti]) ∧
    (t.p.d ≠ s.p.d → i.mnemonic ∈ [.cld, .sed, .plp, .rti]) ∧
    (t.p.i ≠ s.p.i → i.mnemonic ∈ [.cli, .sei, .plp, .rti, .brk]) ∧
    (t.p.c ≠ s.p.c → i.mnemonic ∈ [.adc, .sbc, .asl, .lsr, .rol, .ror, .cmp, .cpx, .cpy, .clc, .sec, .plp, .rti,
      .dcp, .isc, .slo, .anc, .alr, .arr, .axs]) ∧
    (t.a ≠ s.a → i.mnemonic ∈ [.lda, .txa, .tya, .pla, .adc, .sbc, .and, .ora, .eor, .asl, .lsr, .rol, .ror, .lax,
      .isc, .slo, .anc, .alr, .arr, .xaa]) ∧
    (t.x ≠ s.x → i.mnemonic ∈ [.ldx, .tax, .tsx, .inx, .dex, .lax, .axs]) ∧
    (t.y ≠ s.y → i.mnemonic ∈ [.ldy, .tay, .iny, .dey]) ∧
    (t.sp ≠ s.sp → i.mnemonic ∈ [.txs, .pha, .php, .pla, .plp, .jsr, .rts, .brk, .rti]) ∧
    (t.pc ≠ s.pc → i.mnemonic ∈ [.bcc, .bcs, .beq, .bne, .bmi, .bpl, .bvc, .bvs, .jmp, .jsr, .rts, .brk, .rti]) ∧
    (t.mem ≠ s.mem → i.mnemonic ∈ [.sta, .stx, .sty, .sax, .pha, .php, .jsr, .brk, .asl, .lsr, .rol, .ror, .inc,
      .dec, .slo, .dcp, .isc])

/-! ### Operands -/

/-- The address phase of every mode completes, changes nothing and answers the address that the mode's rule gives:
zero-page sums and pointers stay in page 0, absolute sums are modulo 2^16; with the cycles it takes
(40_addressing.md R143 to R150). -/
def Obligations.AddressModes : Prop :=
  ∀ (s : State) (m : MemMode), Ready s →
    ∃ ad t, resolve m s = .next (ad, t) ∧ Frame s t ∧ t.cur.ea = some ad.ea ∧
      match m with
      | .zeroPage b => ad.ea = zext16 b ∧ ad.indexed = false ∧ t.cur.cycles = s.cur.cycles
      | .zeroPageX b => ad.ea = zext16 (b + s.x) ∧ ad.indexed = false ∧ t.cur.cycles = s.cur.cycles + 1
      | .zeroPageY b => ad.ea = zext16 (b + s.y) ∧ ad.indexed = false ∧ t.cur.cycles = s.cur.cycles + 1
      | .absolute a => ad.ea = a ∧ ad.indexed = false ∧ t.cur.cycles = s.cur.cycles
      | .absoluteX a => ad.ea = BitVec.ofNat 16 (a.toNat + s.x.toNat) ∧
          ad.uncarried = word (hiByte a) (loByte a + s.x) ∧ ad.indexed = true ∧ t.cur.cycles = s.cur.cycles
      | .absoluteY a => ad.ea = BitVec.ofNat 16 (a.toNat + s.y.toNat) ∧
          ad.uncarried = word (hiByte a) (loByte a + s.y) ∧ ad.indexed = true ∧ t.cur.cycles = s.cur.cycles
      | .preIndexed b => ad.indexed = false ∧ t.cur.cycles = s.cur.cycles + 3 ∧
          ∃ s1 lo s2 hi s3, dummyRead (zext16 b) s = .next s1 ∧ memRead (zext16 (b + s.x)) s1 = .next (lo, s2) ∧
            memRead (zext16 (b + s.x + 1)) s2 = .next (hi, s3) ∧ ad.ea = word hi lo ∧
            (∀ v, plainByte s (zext16 (b + s.x)) = some v → lo = v) ∧
            (∀ v, plainByte s (zext16 (b + s.x + 1)) = some v → hi = v)
      | .postIndexed b => ad.indexed = true ∧ t.cur.cycles = s.cur.cycles + 2 ∧
          ∃ lo s1 hi s2, memRead (zext16 b) s = .next (lo, s1) ∧ memRead (zext16 (b + 1)) s1 = .next (hi, s2) ∧
            ad.ea = BitVec.ofNat 16 ((word hi lo).toNat + s.y.toNat) ∧ ad.uncarried = word hi (lo + s.y) ∧
            (∀ v, plainByte s (zext16 b) = some v → lo = v) ∧
            (∀ v, plainByte s (zext16 (b + 1)) = some v → hi = v)

/-- A page is crossed exactly when the address without the carry is not the effective address, and then the two
differ by $0100 (40_addressing.md R147, R150, R162). -/
def Obligations.PageCrossIsTheCarry : Prop :=
  ∀ (m : MemMode) (s t : State) (ad : EffAddr), resolve m s = .next (ad, t) →
    (ad.crossed = true ↔ ad.uncarried ≠ ad.ea) ∧ (ad.crossed = true → ad.ea = ad.uncarried + 0x0100)

/-- The READ data phase completes and changes nothing: an immediate takes no cycle more; a memory operand is read
at the effective address, after a read at the uncarried address when a page is crossed, so in one more cycle then
(40_addressing.md R142, R155). -/
def Obligations.ReadPhases : Prop :=
  ∀ (s : State), Ready s →
    (∀ imm, readSource (.immediate imm) s = .next (imm, s.noteOperand imm)) ∧
    (∀ m, ∃ ad s1 v y, resolve m s = .next (ad, s1) ∧
      readSource (.memory m) s = .next (v, y.noteOperand v) ∧ Frame s (y.noteOperand v) ∧
      y.cur.cycles = s1.cur.cycles + 1 + ad.crossed.toNat ∧
      (ad.crossed = false → memRead ad.ea s1 = .next (v, y)) ∧
      (ad.crossed = true → ∃ d x, memRead ad.uncarried s1 = .next (d, x) ∧
        memRead ad.ea (x.notePageCrossed true) = .next (v, y)) ∧
      (∀ b, plainByte s ad.ea = some b → v = b))

/-! ### The bus -/

/-- Bits 15 to 13 of an address never reach the bus (20_memory.md R80). Chip select: by bits 12, 9 and 7 of the bus
address alone an access goes to the cartridge at offset a13 mod $1000, to RAM at index a13 mod $80, to the RIOT's
registers, or to the TIA (R81), so the stack page and the zero page reach RAM from $80 on and the TIA below
(10_state.md R31, 63_riot.md R451). -/
def Obligations.ChipSelect : Prop :=
  (∀ a : Addr13,
    (4096 ≤ a.toNat → chipSelect a = .cart (BitVec.ofNat 12 (a.toNat % 4096))) ∧
    (a.toNat < 4096 → a.toNat / 128 % 2 = 1 → a.toNat / 512 % 2 = 0 →
      chipSelect a = .ram (BitVec.ofNat 7 (a.toNat % 128))) ∧
    (a.toNat < 4096 → a.toNat / 128 % 2 = 1 → a.toNat / 512 % 2 = 1 → chipSelect a = .riot) ∧
    (a.toNat < 4096 → a.toNat / 128 % 2 = 0 → chipSelect a = .tia)) ∧
  (∀ b : Byte, 128 ≤ b.toNat →
    ramTarget (0x0100 + zext16 b) = some b.toNat ∧ ramTarget (zext16 b) = some b.toNat) ∧
  (∀ b : Byte, b.toNat < 128 →
    chipSelect (busAddr (0x0100 + zext16 b)) = .tia ∧ chipSelect (busAddr (zext16 b)) = .tia) ∧
  (∀ (s : State) (a b : Word) (v : Byte), a.toNat % 8192 = b.toNat % 8192 →
    memRead a s = memRead b s ∧ memWrite a v s = memWrite b v s)

/-- Between cycles a write cycle always completes, in one cycle, and stores as its chip select says and nothing
else; RAM reads back at every mirror what was written last, and every other RAM byte what it held (20_memory.md R86,
R95; 63_riot.md R451; 64_scheduler.md R493). A TIA register's write is served in the first colour clock of the cycle's
tick, after that clock's delay queue and counters, and two clocks more run (62_tia_objects.md R383, R492); a RIOT
register's is in its inbox when the tick's one RIOT step runs (63_riot.md R450); a chip not written runs its three clocks,
or its step, with no write. -/
def Obligations.WriteCyclesStoreAndServe : Prop :=
  ∀ (s : State) (addr : Word) (v : Byte), Ready s → s.mem.wf = true →
    ∃ t, memWrite addr v s = .next t ∧ SameCpu s t ∧ Stored addr v s t ∧ t.mem.wf = true ∧
      t.cycleCount = s.cycleCount + 1 ∧
      (chipSelect (busAddr addr) = .tia → ∃ u w p1 p2 p3,
        clockStage (queueStage { s.tia with inbox := some (BitVec.ofNat 6 (addr.toNat % 64), v) }) = .ok u ∧
        tiaWrite (BitVec.ofNat 6 (addr.toNat % 64)) v { u with inbox := none } = .ok w ∧
        tiaRun [p2, p3] (restOfClock p1 w) = .ok t.tia) ∧
      (chipSelect (busAddr addr) ≠ .tia → ∃ p1 p2 p3, tiaRun [p1, p2, p3] s.tia = .ok t.tia) ∧
      (∃ pin, t.riot = riotStep pin
        (if chipSelect (busAddr addr) = .riot then { s.riot with inbox := some (riotWriteReg (busAddr addr), v) }
        else s.riot)) ∧
      ∀ other k, ramTarget other = some k →
        ∃ b u, memRead other t = .next (b, u) ∧
          b = if ramTarget addr = some k then v else Memory.read s.mem k

/-! ### The TIA -/

/-- Without a service, n colour clocks move cc on by n modulo 228, raise RDY if they pass cc 227, and leave the
inbox and the write registers alone (61_tia_clock.md R341, R342, R344, R355). -/
def Obligations.ScanlineIs228Clocks : Prop :=
  ∀ (t : Tia) (pins : List (Bool × Bool)), t.tags.Nodup →
    ∃ u, tiaRun pins t = .ok u ∧ u.cc = (t.cc + pins.length) % 228 ∧ u.inbox = t.inbox ∧
      u.registers = t.registers ∧ u.rdy = (t.rdy || decide (228 ≤ t.cc + pins.length + 1 ∧ (t.cc < 227 ∨
        228 ≤ pins.length)))

/-- The events of a line at their clocks. HBLANK, from cc 63 of a line on which it holds with no end of it and no new
line scheduled: with the HMOVE latch clear it holds up to cc 67, with the latch set up to cc 75, and then it is off for
the rest of the line. HSYNC's signal, from cc 15 with nothing of it scheduled: on from cc 16 to 35; the colour burst on
from cc 36 to 51. NEWLINE, from cc 223 with none scheduled: at cc 0 and at no other clock up to cc 223 again, with
HBLANK on and the HMOVE latch cleared there; while rsync_pending is 1, none (61_tia_clock.md R342, R350, R351, R352,
R356). -/
def Obligations.LineEventsAtTheirClocks : Prop :=
  (∀ (t : Tia) (pins : List (Bool × Bool)), t.tags.Nodup → t.cc = 63 → t.hblank = true →
    .hblankOff ∉ t.tags → .newline ∉ t.tags → pins.length ≤ 164 →
    ∃ u, tiaRun pins t = .ok u ∧ u.cc = 63 + pins.length ∧
      u.hblank = decide (u.cc < if t.hmoveLatch then 76 else 68)) ∧
  (∀ (t : Tia) (pins : List (Bool × Bool)), t.tags.Nodup → t.cc = 15 → .hsyncOff ∉ t.tags → .cburstOff ∉ t.tags →
    1 ≤ pins.length → pins.length ≤ 212 →
    ∃ u, tiaRun pins t = .ok u ∧ u.cc = 15 + pins.length ∧ u.sigHsync = decide (u.cc < 36) ∧
      u.sigCburst = if u.cc < 36 then t.sigCburst else decide (u.cc < 52)) ∧
  (∀ (t : Tia) (pins : List (Bool × Bool)), t.tags.Nodup → t.cc = 223 → .newline ∉ t.tags →
    1 ≤ pins.length → pins.length ≤ 228 →
    ∃ u, tiaRun pins t = .ok u ∧ u.cc = (223 + pins.length) % 228 ∧
      u.newline = (!t.rsyncPending && decide (u.cc = 0)) ∧ (u.cc = 0 → u.hmoveLatch = false) ∧
      (t.rsyncPending = false → u.cc = 0 → u.hblank = true))

/-- A write cycle to WSYNC lowers RDY in its tick, and the stall then runs through the tick that has cc 227, at every
phase of the CPU's cycles in the line: ending at cc 227 exactly, after (227 - cc) / 3 cycles from the last clock of the
write cycle, where 3 divides that, and up to two clocks into the next line where an RSYNC has moved the phase. A WSYNC
serviced at cc 227 itself waits for cc 227 of the next line; one serviced at cc 225 or 226 is released in its own tick
and stalls nothing (61_tia_clock.md R354, R355, R357; 64_scheduler.md R493). -/
def Obligations.WsyncStallsToTheEndOfTheLine : Prop :=
  ∀ (s t : State) (addr : Word) (v : Byte), Ready s →
    chipSelect (busAddr addr) = .tia → addr.toNat % 64 = 2 → memWrite addr v s = .next t →
    (2 ≤ t.tia.cc → t.tia.cc < 227 →
      t.tia.rdy = false ∧ ∃ u, stall t = .next u ∧ u.cycleCount = t.cycleCount + (229 - t.tia.cc) / 3 ∧
        u.tia.cc = (t.tia.cc + 3 * ((229 - t.tia.cc) / 3)) % 228 ∧ u.tia.rdy = true ∧ SameCpu t u ∧
        ((227 - t.tia.cc) % 3 = 0 → u.cycleCount = t.cycleCount + (227 - t.tia.cc) / 3 ∧ u.tia.cc = 227)) ∧
    (t.tia.cc = 1 → t.tia.rdy = false ∧ ∃ u, stall t = .next u ∧ u.cycleCount = t.cycleCount + 76 ∧
      u.tia.cc = 1 ∧ u.tia.rdy = true ∧ SameCpu t u) ∧
    (t.tia.cc = 227 ∨ t.tia.cc = 0 → t.tia.rdy = true ∧ stall t = .next (t.setHalted false))

/-- RSYNC: cc is 0 at once, the next clock is cc 1, NEWLINE comes four clocks later, at cc 4, and clears
rsync_pending; the HMOVE latch, RDY and the other entries of the delay queue are unchanged; while rsync_pending is 1
the decode of count 56 schedules no NEWLINE (61_tia_clock.md R356). -/
def Obligations.RsyncRestartsTheLine : Prop :=
  (∀ (t : Tia) (v : Byte), t.tags.Nodup →
    ∃ u, tiaWrite 0x03 v t = .ok u ∧ u.hsync = 0 ∧ u.pclk = 2 ∧ u.cc = 0 ∧ u.rsyncPending = true ∧
      u.hmoveLatch = t.hmoveLatch ∧ u.rdy = t.rdy ∧
      u.dq.filter (fun sl => sl.event.tag ≠ .newline) = t.dq.filter (fun sl => sl.event.tag ≠ .newline) ∧
      (∀ p pins, pins.length ≤ 3 → ∃ w, tiaRun pins (restOfClock p u) = .ok w ∧ w.cc = pins.length ∧ w.rsyncPending = true) ∧
      (∀ p pins, pins.length = 4 → ∃ w, tiaRun pins (restOfClock p u) = .ok w ∧ w.cc = 4 ∧
        w.rsyncPending = false ∧ w.hblank = true)) ∧
  (∀ t : Tia, t.hsync = 56 → t.rsyncPending = true → decodeHsync t = .ok t)

/-- HMOVE pulses. In the colour clocks after the one that serves an HMOVE, the ripple steps at every Φ2 rise, each fourth
clock, and at no other, and an object has a pulse in a clock exactly if the clock is one of the first hm EXCLUSIVE-OR 8
rises (61_tia_clock.md R360, R361). So of n ripple steps it gets a pulse at the first hm EXCLUSIVE-OR 8 and no other, which
is hm read as a signed number, plus 8: the spec's own inference (R362, derived there from R361). -/
def Obligations.HmovePulses : Prop :=
  (∀ (t : Tia) (o : Obj) (p : Bool × Bool) (pins : List (Bool × Bool)), t.tags.Nodup → 1 ≤ pins.length →
    ∃ w, tiaRun pins (restOfClock p (strobeHmove t)) = .ok w ∧
      (w.pulse.get o = true ↔ (t.cc + pins.length) % 4 = 0 ∧
        (t.cc % 4 + pins.length) / 4 ≤ ((t.hm.get o) ^^^ 8).toNat)) ∧
  (∀ (t : Tia) (o : Obj) (n : Nat), n ≤ 16 →
    pulseCount o n (strobeHmove t) = min n ((t.hm.get o) ^^^ 8).toNat ∧
    (((t.hm.get o) ^^^ 8).toNat : Int) = (t.hm.get o).toInt + 8)

/-- A playfield write, serviced at a clock, changes pf_work at the fifth clock after it and not before, to the
pattern of the three registers as they were left by it, whatever was scheduled earlier (62_tia_objects.md R386). Of a
PF0 write, pf0 stores bits 7 to 4 (R380, R382), all that the pattern uses (R420), and pf0Last keeps the value written
(R386, 10_state.md R50): that these are two fields is the model's choice (log 9). -/
def Obligations.PlayfieldCommitsAfterFiveClocks : Prop :=
  ∀ (t u : Tia) (reg : BitVec 6) (v : Byte), t.tags.Nodup → (reg = 0x0D ∨ reg = 0x0E ∨ reg = 0x0F) →
    tiaWrite reg v t = .ok u →
    (∀ p pins, pins.length ≤ 4 → ∃ w, tiaRun pins (restOfClock p u) = .ok w ∧ w.pfWork = t.pfWork) ∧
    (∀ p pins, pins.length = 5 → ∃ w, tiaRun pins (restOfClock p u) = .ok w ∧
      w.pfWork = buildPlayfield u.pf0 u.pf1 u.pf2) ∧
    u.pf0 = (if reg = 0x0D then v &&& 0xF0 else t.pf0) ∧ u.pf0Last = (if reg = 0x0D then v else t.pf0Last) ∧
    u.pf1 = (if reg = 0x0E then v else t.pf1) ∧ u.pf2 = (if reg = 0x0F then v else t.pf2)

/-- How the object counters move. A RESxx strobe sets the object's counter 2 or 4 clocks after its service, by HBLANK
at the service, to the value of the object's row, and the tick of that clock comes on top (62_tia_objects.md R387, R400,
R401). In every clock without such an action, a counter goes on by 1 modulo 160 outside HBLANK or on a pulse, and else
stays (R400). A missile locked to its player follows its counter at the offset that RESMP_OFFSET, an open parameter,
gives for the player's mode (R388). -/
def Obligations.ObjectCountersMove : Prop :=
  (∀ (t u w : Tia) (o : Obj) (v : Byte) (p : Bool × Bool) (pins : List (Bool × Bool)), t.tags.Nodup →
    tiaWrite (match o with | .p0 => 0x10 | .p1 => 0x11 | .m0 => 0x12 | .m1 => 0x13 | .bl => 0x14) v t = .ok u →
    (o = .m0 → t.pl0.resmp = false) → (o = .m1 → t.pl1.resmp = false) →
    pins.length = (if t.hblank then 2 else 4) → tiaRun pins (restOfClock p u) = .ok w →
    (w.pos.get o).val =
      ((match o with
        | .p0 | .p1 => if t.hblank then 156 else 158
        | .m0 | .m1 | .bl => if t.hblank then 157 else 159) +
        (if w.hblank = false ∨ w.pulse.get o = true then 1 else 0)) % 160) ∧
  (∀ (t u : Tia) (service b4 b5 : Bool) (sig : Signal), tiaStep service b4 b5 t = .ok (u, sig) →
    (∀ o, (∀ sl ∈ t.dq, sl.event.tag = .res o → 1 < sl.remaining) →
      (o = .m0 → u.pl0.resmp = false) → (o = .m1 → u.pl1.resmp = false) →
      (u.pos.get o).val =
        ((t.pos.get o).val + (if u.hblank = false ∨ u.pulse.get o = true then 1 else 0)) % 160) ∧
    (u.pl0.resmp = true →
      u.pos.m0.val = (u.pos.p0.val + (Config.resmpOffset (BitVec.ofNat 3 u.pl0.nusiz.toNat)).val) % 160) ∧
    (u.pl1.resmp = true →
      u.pos.m1.val = (u.pos.p1.val + (Config.resmpOffset (BitVec.ofNat 3 u.pl1.nusiz.toNat)).val) % 160))

/-- Register writes that take effect at once, with the bits each register keeps: VSYNC and VBLANK with the fire-button
latches (62_tia_objects.md R384), the plain latch registers (R385), the audio registers (R393), the graphics registers
with their old copies (R389), the motion registers (R390), RESMP, after which a missile stays where it is (R388), HMOVE
(61_tia_clock.md R360), CXCLR (R391), and an unused register, which does nothing (20_memory.md R89). CTRLPF
stores R380's bits 5, 4, 2, 1, 0 (R385); that a second field keeps bits 5 to 0 of the last write (10_state.md R50) is the
model's choice (log 9). -/
def Obligations.TiaRegisterWrites : Prop :=
  ∀ (t : Tia) (v : Byte),
    tiaWrite 0x00 v t = .ok { t with vsync := v.getLsbD 1 } ∧
    tiaWrite 0x01 v t = .ok { t with
      vblankVideo := v.getLsbD 1, vblankLatch := v.getLsbD 6, vblankDump := v.getLsbD 7
      inptLatch4 := t.inptLatch4 || !v.getLsbD 6, inptLatch5 := t.inptLatch5 || !v.getLsbD 6 } ∧
    tiaWrite 0x04 v t = .ok { t with pl0 := { t.pl0 with nusiz := BitVec.ofNat 6 v.toNat } } ∧
    tiaWrite 0x05 v t = .ok { t with pl1 := { t.pl1 with nusiz := BitVec.ofNat 6 v.toNat } } ∧
    tiaWrite 0x06 v t = .ok { t with pl0 := { t.pl0 with colup := BitVec.ofNat 7 (v.toNat / 2) } } ∧
    tiaWrite 0x07 v t = .ok { t with pl1 := { t.pl1 with colup := BitVec.ofNat 7 (v.toNat / 2) } } ∧
    tiaWrite 0x08 v t = .ok { t with colupf := BitVec.ofNat 7 (v.toNat / 2) } ∧
    tiaWrite 0x09 v t = .ok { t with colubk := BitVec.ofNat 7 (v.toNat / 2) } ∧
    tiaWrite 0x0A v t = .ok { t with
      ctrlpf := BitVec.ofNat 6 v.toNat &&& 0x37, ctrlpfLast := BitVec.ofNat 6 v.toNat } ∧
    tiaWrite 0x0B v t = .ok { t with pl0 := { t.pl0 with refp := v.getLsbD 3 } } ∧
    tiaWrite 0x0C v t = .ok { t with pl1 := { t.pl1 with refp := v.getLsbD 3 } } ∧
    tiaWrite 0x15 v t = .ok { t with audc0 := BitVec.ofNat 5 v.toNat } ∧
    tiaWrite 0x16 v t = .ok { t with audc1 := BitVec.ofNat 5 v.toNat } ∧
    tiaWrite 0x17 v t = .ok { t with audf0 := BitVec.ofNat 5 v.toNat } ∧
    tiaWrite 0x18 v t = .ok { t with audf1 := BitVec.ofNat 5 v.toNat } ∧
    tiaWrite 0x19 v t = .ok { t with audv0 := BitVec.ofNat 4 v.toNat } ∧
    tiaWrite 0x1A v t = .ok { t with audv1 := BitVec.ofNat 4 v.toNat } ∧
    tiaWrite 0x1B v t = .ok { t with
      pl0 := { t.pl0 with grpNew := v }, pl1 := { t.pl1 with grpOld := t.pl1.grpNew } } ∧
    tiaWrite 0x1C v t = .ok { t with
      pl1 := { t.pl1 with grpNew := v }, pl0 := { t.pl0 with grpOld := t.pl0.grpNew }, enablOld := t.enablNew } ∧
    tiaWrite 0x1D v t = .ok { t with pl0 := { t.pl0 with enam := v.getLsbD 1 } } ∧
    tiaWrite 0x1E v t = .ok { t with pl1 := { t.pl1 with enam := v.getLsbD 1 } } ∧
    tiaWrite 0x1F v t = .ok { t with enablNew := v.getLsbD 1 } ∧
    tiaWrite 0x20 v t = .ok { t with hm := { t.hm with p0 := BitVec.ofNat 4 (v.toNat / 16) } } ∧
    tiaWrite 0x21 v t = .ok { t with hm := { t.hm with p1 := BitVec.ofNat 4 (v.toNat / 16) } } ∧
    tiaWrite 0x22 v t = .ok { t with hm := { t.hm with m0 := BitVec.ofNat 4 (v.toNat / 16) } } ∧
    tiaWrite 0x23 v t = .ok { t with hm := { t.hm with m1 := BitVec.ofNat 4 (v.toNat / 16) } } ∧
    tiaWrite 0x24 v t = .ok { t with hm := { t.hm with bl := BitVec.ofNat 4 (v.toNat / 16) } } ∧
    tiaWrite 0x25 v t = .ok { t with pl0 := { t.pl0 with vdelp := v.getLsbD 0 } } ∧
    tiaWrite 0x26 v t = .ok { t with pl1 := { t.pl1 with vdelp := v.getLsbD 0 } } ∧
    tiaWrite 0x27 v t = .ok { t with vdelbl := v.getLsbD 0 } ∧
    tiaWrite 0x28 v t = .ok { t with pl0 := { t.pl0 with resmp := v.getLsbD 1 } } ∧
    tiaWrite 0x29 v t = .ok { t with pl1 := { t.pl1 with resmp := v.getLsbD 1 } } ∧
    tiaWrite 0x2A v t = .ok { t with hmoveLatch := true, more := ⟨true, true, true, true, true⟩, hmArmed := true } ∧
    tiaWrite 0x2B v t = .ok { t with hm := ⟨0, 0, 0, 0, 0⟩ } ∧
    tiaWrite 0x2C v t = .ok { t with cx := .clear } ∧
    ∀ reg : BitVec 6, 0x2D ≤ reg.toNat → tiaWrite reg v t = .ok t

/-- What every clock does last. Collisions: outside HBLANK a clock joins to every latch whether both elements of its
pair are on, in HBLANK no latch changes; a served CXCLR clears the latches before that (62_tia_objects.md R391, R436).
The record it emits: HSYNC, VSYNC, colour burst, HBLANK, VBLANK and pixel as they stand in this clock, and the
new-scanline mark exactly in the clock where a NEWLINE fires (64_scheduler.md R497). -/
def Obligations.CollisionsAndTheSignalRecord : Prop :=
  ∀ (t u : Tia) (service b4 b5 : Bool) (sig : Signal), tiaStep service b4 b5 t = .ok (u, sig) →
    let before : Collisions := if service = true ∧ t.inbox.map Prod.fst = some 0x2C then .clear else t.cx
    let on := onFlags u
    (u.hblank = true → u.cx = before) ∧
    (u.hblank = false → u.cx =
      { m0p1 := before.m0p1 || (on.m0 && on.p1), m0p0 := before.m0p0 || (on.m0 && on.p0)
        m1p0 := before.m1p0 || (on.m1 && on.p0), m1p1 := before.m1p1 || (on.m1 && on.p1)
        p0pf := before.p0pf || (on.p0 && on.pf), p0bl := before.p0bl || (on.p0 && on.bl)
        p1pf := before.p1pf || (on.p1 && on.pf), p1bl := before.p1bl || (on.p1 && on.bl)
        m0pf := before.m0pf || (on.m0 && on.pf), m0bl := before.m0bl || (on.m0 && on.bl)
        m1pf := before.m1pf || (on.m1 && on.pf), m1bl := before.m1bl || (on.m1 && on.bl)
        blpf := before.blpf || (on.bl && on.pf), p0p1 := before.p0p1 || (on.p0 && on.p1)
        m0m1 := before.m0m1 || (on.m0 && on.m1) }) ∧
    sig = { hsync := u.sigHsync, vsync := u.vsync, cburst := u.sigCburst, hblank := u.hblank
            vblank := u.vblankVideo, pixel := pixelOf u on, newScanline := u.newline } ∧
    (sig.newScanline = true ↔ ∃ sl ∈ t.dq, sl.event = .newline ∧ sl.remaining ≤ 1)

/-- TIA reads: bits 7 and 6 of the collision registers are their latches, a dumped paddle reads 0 in bit 7, a
latched fire button reads its latch (62_tia_objects.md R381, R440, R441, R442); the other bits are free values, and
no TIA read changes the TIA or the RIOT (20_memory.md R90). A read cycle with RDY 1 answers that byte, from the TIA as it
is before the cycle's tick, which starts from the unchanged TIA (R87). The latches: in every clock with vblank_latch 1 each becomes
itself AND its button's pin, so that a press stays seen; a VBLANK write served with bit 6 = 0 sets both; else they stay
(R442, R384). -/
def Obligations.TiaReadsAndButtonLatches : Prop :=
  (∀ (s : State) (a : Word), chipSelect (busAddr a) = .tia →
    let v := readValue (busAddr a) s
    let r := a.toNat % 16
    (r = 0 → v.getLsbD 7 = s.tia.cx.m0p1 ∧ v.getLsbD 6 = s.tia.cx.m0p0) ∧
    (r = 1 → v.getLsbD 7 = s.tia.cx.m1p0 ∧ v.getLsbD 6 = s.tia.cx.m1p1) ∧
    (r = 2 → v.getLsbD 7 = s.tia.cx.p0pf ∧ v.getLsbD 6 = s.tia.cx.p0bl) ∧
    (r = 3 → v.getLsbD 7 = s.tia.cx.p1pf ∧ v.getLsbD 6 = s.tia.cx.p1bl) ∧
    (r = 4 → v.getLsbD 7 = s.tia.cx.m0pf ∧ v.getLsbD 6 = s.tia.cx.m0bl) ∧
    (r = 5 → v.getLsbD 7 = s.tia.cx.m1pf ∧ v.getLsbD 6 = s.tia.cx.m1bl) ∧
    (r = 6 → v.getLsbD 7 = s.tia.cx.blpf) ∧
    (r = 7 → v.getLsbD 7 = s.tia.cx.p0p1 ∧ v.getLsbD 6 = s.tia.cx.m0m1) ∧
    (8 ≤ r → r ≤ 11 → s.tia.vblankDump = true → v.getLsbD 7 = false) ∧
    (r = 12 → s.tia.vblankLatch = true → v.getLsbD 7 = s.tia.inptLatch4) ∧
    (r = 13 → s.tia.vblankLatch = true → v.getLsbD 7 = s.tia.inptLatch5) ∧
    (afterRead a s).tia = s.tia ∧ (afterRead a s).riot = s.riot ∧
    (Ready s → s.tia.rdy = true → ∃ t p1 p2 p3, memRead a s = .next (v, t) ∧
      tiaRun [p1, p2, p3] s.tia = .ok t.tia)) ∧
  (∀ (t u : Tia) (service b4 b5 : Bool) (sig : Signal), tiaStep service b4 b5 t = .ok (u, sig) →
    let released := service = true ∧ ∃ v : Byte, t.inbox = some (0x01, v) ∧ v.getLsbD 6 = false
    (u.vblankLatch = true → u.inptLatch4 = (t.inptLatch4 && b4) ∧ u.inptLatch5 = (t.inptLatch5 && b5)) ∧
    (released → u.vblankLatch = false ∧ u.inptLatch4 = true ∧ u.inptLatch5 = true) ∧
    (u.vblankLatch = false → ¬ released → u.inptLatch4 = t.inptLatch4 ∧ u.inptLatch5 = t.inptLatch5))

/-- Which pixels the movable objects cover: a player by its copies, scale, start delay, reflection and vertical
delay, a missile by its player's copies and its width, the ball by its width and vertical delay (62_tia_objects.md
R410 to R413). In a clock each object is taken at its own counter, with its own player's registers. -/
def Obligations.ObjectPixels : Prop :=
  ∀ (t : Tia) (pl : Player) (p : Fin 160),
    let mode := pl.nusiz.toNat % 8
    let offsets : List Nat :=
      if mode = 1 then [0, 16] else if mode = 2 then [0, 32] else if mode = 3 then [0, 16, 32]
      else if mode = 4 then [0, 64] else if mode = 6 then [0, 32, 64] else [0]
    let scale := if mode = 5 then 2 else if mode = 7 then 4 else 1
    let start := if mode = 5 ∨ mode = 7 then 1 else 0
    let g := if pl.vdelp then pl.grpOld else pl.grpNew
    (playerOn pl p = true ↔ ∃ off ∈ offsets,
      (p.val + 320 - off - start) % 160 < 8 * scale ∧
        g.getLsbD (if pl.refp then (p.val + 320 - off - start) % 160 / scale
          else 7 - (p.val + 320 - off - start) % 160 / scale) = true) ∧
    (missileOn pl p = true ↔ pl.enam = true ∧ pl.resmp = false ∧
      ∃ off ∈ offsets, (p.val + 320 - off) % 160 < 2 ^ (pl.nusiz.toNat / 16)) ∧
    (ballOn t = true ↔ (if t.vdelbl then t.enablOld else t.enablNew) = true ∧
      t.pos.bl.val < 2 ^ (t.ctrlpf.toNat / 16)) ∧
    onFlags t =
      { p0 := playerOn t.pl0 t.pos.p0, p1 := playerOn t.pl1 t.pos.p1, m0 := missileOn t.pl0 t.pos.m0
        m1 := missileOn t.pl1 t.pos.m1, bl := ballOn t, pf := playfieldOn t }

/-- The playfield pattern's 20 bits in display order, and which bit a visible pixel shows, left, repeated and
reflected (62_tia_objects.md R420, R421). That the playfield goes by cc alone, off below cc 68 even where HBLANK is off
there and on by its bit from cc 68 even while HBLANK is extended, is the model's choice (log 12). -/
def Obligations.PlayfieldBits : Prop :=
  (∀ (a b c : Byte) (j : Nat), j < 20 → (buildPlayfield a b c).getLsbD j =
    if j < 4 then a.getLsbD (4 + j) else if j < 12 then b.getLsbD (11 - j) else c.getLsbD (j - 12)) ∧
  (∀ t : Tia,
    (t.cc < 68 → playfieldOn t = false) ∧
    (∀ j, j < 20 → t.cc = 68 + 4 * j ∨ t.cc = 69 + 4 * j ∨ t.cc = 70 + 4 * j ∨ t.cc = 71 + 4 * j →
      playfieldOn t = t.pfWork.getLsbD j) ∧
    (∀ j, j < 20 → t.cc = 148 + 4 * j ∨ t.cc = 149 + 4 * j ∨ t.cc = 150 + 4 * j ∨ t.cc = 151 + 4 * j →
      playfieldOn t = t.pfWork.getLsbD (if t.ctrlpf.getLsbD 0 then 19 - j else j)))

/-- The pixel: VideoBlack under HBLANK or VBLANK; else by priority the players' colours before or after the
playfield's, the ball's colour always COLUPF, the background last; in score mode, which playfield priority
overrides, the playfield takes the players' colours, left and right (62_tia_objects.md R430). -/
def Obligations.PixelPriority : Prop :=
  ∀ (t : Tia) (on : OnFlags),
    let left := decide (t.cc - 68 < 80)
    let score := t.ctrlpf.getLsbD 1 && !t.ctrlpf.getLsbD 2
    let pfc := if score then (if left then t.pl0.colup else t.pl1.colup) else t.colupf
    ((t.hblank = true ∨ t.vblankVideo = true) → pixelOf t on = none) ∧
    (t.hblank = false → t.vblankVideo = false →
      (t.ctrlpf.getLsbD 2 = false →
        ((on.p0 = true ∨ on.m0 = true) → pixelOf t on = some t.pl0.colup) ∧
        (on.p0 = false → on.m0 = false → (on.p1 = true ∨ on.m1 = true) → pixelOf t on = some t.pl1.colup) ∧
        (on.p0 = false → on.m0 = false → on.p1 = false → on.m1 = false → on.pf = true → pixelOf t on = some pfc) ∧
        (on.p0 = false → on.m0 = false → on.p1 = false → on.m1 = false → on.pf = false → on.bl = true →
          pixelOf t on = some t.colupf)) ∧
      (t.ctrlpf.getLsbD 2 = true →
        ((on.pf = true ∨ on.bl = true) → pixelOf t on = some t.colupf) ∧
        (on.pf = false → on.bl = false → (on.p0 = true ∨ on.m0 = true) → pixelOf t on = some t.pl0.colup) ∧
        (on.pf = false → on.bl = false → on.p0 = false → on.m0 = false → (on.p1 = true ∨ on.m1 = true) →
          pixelOf t on = some t.pl1.colup)) ∧
      (on = ⟨false, false, false, false, false, false⟩ → pixelOf t on = some t.colubk))

/-! ### The RIOT -/

/-- The timer: with N ≥ 1 written with divisor d, the value is N after the step that serviced the write, and after
k·d + j more steps (1 ≤ j ≤ d) it is N - 1 - k while that is not negative; the step after N·d more underflows to $FF
with expired set (63_riot.md R452, R453, R454). -/
def Obligations.TimerCountsDown : Prop :=
  ∀ (r : Riot) (d : Divisor) (n : Byte) (pin : Bool) (pins : List Bool), n ≠ 0 → r.inbox = some (.timer d, n) →
    let r1 := riotRun pins (riotStep pin r)
    (pins.length = 0 → r1.intim = n) ∧
    (∀ k j, 1 ≤ j → j ≤ d.cycles → k + 1 ≤ n.toNat → pins.length = k * d.cycles + j →
      r1.intim = BitVec.ofNat 8 (n.toNat - 1 - k) ∧ r1.expired = false) ∧
    (pins.length = n.toNat * d.cycles + 1 →
      r1.intim = 0xFF ∧ r1.expired = true ∧ r1.expiredNow = true ∧ r1.divisor = .d1)

/-- RIOT registers. Reads: INTIM gives intim and clears expired unless the last step underflowed (63_riot.md R456);
TIMINT gives expired and the PA7 flag in bits 7 and 6 over zeros and clears that flag (R455, R457); a port gives its
latch where the direction bit is 1, else the pin (R470), and a direction register itself. A read cycle that selects the
RIOT answers that byte, with RDY 1, and its tick's RIOT step starts from what the read left (20_memory.md R87). Writes store as their
registers say (R452, R462, R471; 20_memory.md R83). -/
def Obligations.RiotRegisters : Prop :=
  (∀ (s : State) (a : Word), Ready s → s.tia.rdy = true → chipSelect (busAddr a) = .riot →
    ∃ t pinA pinB pin, memRead a s = .next ((riotRead (busAddr a) pinA pinB s.riot).1, t) ∧
      t.riot = riotStep pin (riotRead (busAddr a) pinA pinB s.riot).2) ∧
  (∀ (r : Riot) (a : Addr13) (pinA pinB : Byte),
    (a.toNat % 8 = 4 ∨ a.toNat % 8 = 6 → riotRead a pinA pinB r =
      (r.intim, { r with expired := if r.expiredNow then r.expired else false })) ∧
    (a.toNat % 8 = 5 ∨ a.toNat % 8 = 7 → riotRead a pinA pinB r =
      (BitVec.ofNat 8 (128 * r.expired.toNat + 64 * r.pa7Flag.toNat), { r with pa7Flag := false })) ∧
    (a.toNat % 8 = 0 → (riotRead a pinA pinB r).2 = r ∧ ∀ i, i < 8 →
      (riotRead a pinA pinB r).1.getLsbD i = if r.ddra.getLsbD i then r.ora.getLsbD i else pinA.getLsbD i) ∧
    (a.toNat % 8 = 1 → riotRead a pinA pinB r = (r.ddra, r)) ∧
    (a.toNat % 8 = 2 → (riotRead a pinA pinB r).2 = r ∧ ∀ i, i < 8 →
      (riotRead a pinA pinB r).1.getLsbD i = if r.ddrb.getLsbD i then r.orb.getLsbD i else pinB.getLsbD i) ∧
    (a.toNat % 8 = 3 → riotRead a pinA pinB r = (r.ddrb, r)) ∧
    ∀ v : Byte,
    (a.toNat % 8 = 0 → riotWrite (riotWriteReg a) v r = { r with ora := v }) ∧
    (a.toNat % 8 = 1 → riotWrite (riotWriteReg a) v r = { r with ddra := v }) ∧
    (a.toNat % 8 = 2 → riotWrite (riotWriteReg a) v r = { r with orb := v }) ∧
    (a.toNat % 8 = 3 → riotWrite (riotWriteReg a) v r = { r with ddrb := v }) ∧
    (4 ≤ a.toNat % 8 → a.toNat / 16 % 2 = 0 →
      riotWrite (riotWriteReg a) v r = { r with edgeRising := decide (a.toNat % 2 = 1) }) ∧
    (4 ≤ a.toNat % 8 → a.toNat / 16 % 2 = 1 → riotWrite (riotWriteReg a) v r =
      { r with
        intim := v, prescale := 1, expired := false, expiredNow := false
        divisor := if a.toNat % 4 = 0 then .d1 else if a.toNat % 4 = 1 then .d8
          else if a.toNat % 4 = 2 then .d64 else .d1024 }))

/-- The PA7 edge: every RIOT step samples PA7, from the latch if it is an output, after the service of a write in
that step, and sets the flag on the selected edge and on no other; nothing else sets or clears it in a step
(63_riot.md R450, R463). -/
def Obligations.Pa7EdgeSetsTheFlag : Prop :=
  ∀ (r : Riot) (pin : Bool),
    let r1 := riotStep pin r
    let level := if r1.ddra.getLsbD 7 then r1.ora.getLsbD 7 else pin
    r1.pa7Prev = level ∧
    (r1.pa7Flag = true ↔ r.pa7Flag = true ∨
      (r1.edgeRising = true ∧ r.pa7Prev = false ∧ level = true) ∨
      (r1.edgeRising = false ∧ r.pa7Prev = true ∧ level = false))

/-! ### Reset -/

/-- What reset leaves, in the values the spec gives: SP $FD, I 1, PC the word of the cartridge's bytes $FFC and $FFD,
no NMI pending, no fault, no report, cycle count 0, not halted, last result not final, TIA and RIOT inboxes and the
delay queue empty, rsync_pending 0, the timer at divisor and prescale 1024 and not expired, the PA7 flag and edge 0,
the ports 0 (70_reset_and_hazards.md R520; 10_state.md R75). No cycle runs. Attaching a cartridge is a reset with that
cartridge in the slot, whose word at $FFC is PC (R522, R525). Three things are the model's and not the spec's: that a
reset keeps the plain cartridge's image, and that with a host's cartridge the second vector read and the cartridge left
behind see what the first read did (both log 22, DEDUCED); and that a plain image stands at $1000 to $1FFF of memory
(log 4, DESIGN CHOICE). -/
def Obligations.ResetValues : Prop :=
  ∀ s : State,
    (∀ t, (t = resetMachine s ∨ t = State.reset ∨ (∃ bytes, t = attachRom bytes s) ∨ ∃ n, t = attachHost n s) →
      t.sp = 0xFD ∧ t.p.i = true ∧ t.nmiPending = false ∧ t.fault = none ∧ t.reports = [] ∧ t.cycleCount = 0 ∧
      t.halted = false ∧ t.last.final = false ∧ t.tia.inbox = none ∧ t.tia.dq = [] ∧ t.tia.rsyncPending = false ∧
      t.riot.inbox = none ∧ t.riot.divisor = .d1024 ∧ t.riot.prescale = 1024 ∧ t.riot.expired = false ∧
      t.riot.expiredNow = false ∧ t.riot.pa7Flag = false ∧ t.riot.edgeRising = false ∧ t.riot.ora = 0 ∧
      t.riot.ddra = 0 ∧ t.riot.orb = 0 ∧ t.riot.ddrb = 0 ∧ t.signals = []) ∧
    (s.cart = .rom → s.mem.wf = true →
      (resetMachine s).pc = word (Memory.read s.mem 0x1FFD) (Memory.read s.mem 0x1FFC) ∧
      ∀ k, 0x1000 ≤ k → Memory.read (resetMachine s).mem k = Memory.read s.mem k) ∧
    (∀ bytes : List Byte, bytes.length = 4096 →
      (attachRom bytes s).cart = .rom ∧ (attachRom bytes s).mem.wf = true ∧
      (attachRom bytes s).pc = word (bytes.getD 0xFFD 0) (bytes.getD 0xFFC 0) ∧
      ∀ k, k < 4096 → Memory.read (attachRom bytes s).mem (0x1000 + k) = bytes.getD k 0) ∧
    (∀ n : Nat, s.cart = .host n → (resetMachine s).pc =
        word (Config.cartRead (Config.cartRead n 0xFFC).2 0xFFD).1 (Config.cartRead n 0xFFC).1 ∧
      (resetMachine s).cart = .host (Config.cartRead (Config.cartRead n 0xFFC).2 0xFFD).2) ∧
    (∀ n : Nat, (attachHost n s).pc =
        word (Config.cartRead (Config.cartRead n 0xFFC).2 0xFFD).1 (Config.cartRead n 0xFFC).1 ∧
      (attachHost n s).cart = .host (Config.cartRead (Config.cartRead n 0xFFC).2 0xFFD).2)

end Statements
end

