-- ==== Sys2Proof/Laws/Decode.lean ====
section
/-! SUPPORT. Decoding: the opcode map is full, each cell builds instructions of its own opcode, each instruction
is built by its cell; the bytes of a word. -/

namespace Sys2Proof

@[simp] theorem loByte_word (hi lo : Byte) : loByte (word hi lo) = lo := BitVec.extractLsb'_append_eq_right

@[simp] theorem hiByte_word (hi lo : Byte) : hiByte (word hi lo) = hi := BitVec.extractLsb'_append_eq_left

@[simp] theorem word_bytes (w : Word) : word (hiByte w) (loByte w) = w := by
  exact (BitVec.extractLsb'_append_extractLsb'_eq_extractLsb' rfl).trans BitVec.extractLsb'_eq_self

/-- The opcode map has 16 rows of 16 cells (30_encoding.md R114). -/
theorem opcodeMap_full : opcodeMap.length = 16 ∧ ∀ r ∈ opcodeMap, r.length = 16 := by
  refine ⟨rfl, fun r hr => ?_⟩
  simp only [opcodeMap, List.mem_append, List.mem_cons, List.not_mem_nil, or_false] at hr
  rcases hr with (rfl | rfl | rfl | rfl | rfl | rfl | rfl | rfl) | (rfl | rfl | rfl | rfl | rfl | rfl | rfl | rfl) <;> rfl

/-- A statement about every byte is one about the numbers below 256. -/
theorem byte_all {P : Byte → Prop} (h : ∀ n, n < 256 → P (BitVec.ofNat 8 n)) (op : Byte) : P op := by
  simpa using h op.toNat op.isLt

/-- A shape builds instructions of an opcode, with the operand bytes it is given. -/
def Shape.builds (op : Byte) : Shape → Prop
  | .bare i => i.opcode = op ∧ i.operand.bytes = []
  | .byte f => ∀ b, (f b).opcode = op ∧ (f b).operand.bytes = [b]
  | .word f | .jump f | .call f => ∀ w, (f w).opcode = op ∧ (f w).operand.bytes = [loByte w, hiByte w]

/-- Every cell of the map builds instructions of its own opcode. -/
theorem entryOf_builds (op : Byte) : (entryOf op).shape.builds op := by
  revert op
  refine byte_all fun n hn => ?_
  interval_cases n <;> first | exact ⟨rfl, rfl⟩ | exact fun _ => ⟨rfl, rfl⟩

/-- A shape gives the instruction back from its operand bytes. -/
def Shape.yields (i : Instr) : Shape → Prop
  | .bare j => j = i
  | .byte f => f (i.operand.bytes.getD 0 0) = i
  | .word f | .jump f | .call f => f (Sys2Proof.word (i.operand.bytes.getD 1 0) (i.operand.bytes.getD 0 0)) = i

/-- The cell of every instruction's opcode gives the instruction back. -/
theorem entryOf_yields (i : Instr) : (entryOf i.opcode).shape.yields i := by
  cases i <;> dsimp only [Instr.opcode] <;> (conv => whnf) <;> first | rfl | exact congrArg _ (word_bytes _)

/-- An operand has at most two bytes (R110). -/
theorem operand_bytes_length (i : Instr) : i.operand.bytes.length ≤ 2 := by
  cases i <;> first | exact Nat.zero_le _ | exact Nat.le_succ 1 | exact le_refl 2

end Sys2Proof
end

