-- ==== Sys2Proof/Laws/Memory.lean ====
section
/-! SUPPORT. Memory: a read after a write, and every write keeps the canonical form. -/

namespace Sys2Proof.Machine

@[simp] theorem Memory.read_write_same (m : Memory) (k : Nat) (v : Byte) :
    ∀ lo, m.rising lo = true → Memory.read (Memory.write m k v) k = v := by
  induction m with
  | nil =>
    intro lo _
    by_cases hv : v = Memory.unlisted <;> simp [Memory.write, Memory.read, hv]
  | cons c m ih =>
    obtain ⟨a, b⟩ := c
    intro lo h
    simp only [Memory.rising, Bool.and_eq_true, decide_eq_true_eq] at h
    have above : ∀ (m : Memory) (lo k : Nat), m.rising lo = true → k ≤ lo → Memory.read m k = Memory.unlisted := by
      intro m
      induction m with
      | nil => intros; rfl
      | cons d m ih =>
        intro lo k h hk
        simp only [Memory.rising, Bool.and_eq_true, decide_eq_true_eq] at h
        have : d.1 ≠ k := by omega
        simp [Memory.read, this, ih _ _ h.2 (by omega : k ≤ d.1)]
    simp only [Memory.write]
    by_cases hlt : k < a
    · have hne : a ≠ k := by omega
      by_cases hv : v = Memory.unlisted
      · simp [hlt, hv, Memory.read, hne, above m a k h.2 (by omega)]
      · simp [hlt, hv, Memory.read]
    · by_cases heq : k = a
      · subst heq
        by_cases hv : v = Memory.unlisted
        · simp [hv, above m k k h.2 (le_refl k)]
        · simp [hv, Memory.read]
      · have hne : a ≠ k := fun e => heq e.symm
        simp [hlt, heq, Memory.read, hne, ih a h.2]

/-- A write leaves every other byte alone. -/
theorem Memory.read_write_ne (m : Memory) (k : Nat) (v : Byte) {j : Nat} (hj : j ≠ k) :
    Memory.read (Memory.write m k v) j = Memory.read m j := by
  induction m with
  | nil =>
    by_cases hv : v = Memory.unlisted
    · simp [Memory.write, hv]
    · simp [Memory.write, hv, Memory.read, hj.symm]
  | cons c m ih =>
    obtain ⟨a, b⟩ := c
    simp only [Memory.write]
    by_cases hlt : k < a
    · by_cases hv : v = Memory.unlisted <;> simp [hlt, hv, Memory.read, hj.symm]
    · by_cases heq : k = a
      · subst heq
        by_cases hv : v = Memory.unlisted <;> simp [hv, Memory.read, hj.symm]
      · simp [hlt, heq, Memory.read, ih]

theorem Memory.write_rising (m : Memory) (k : Nat) (v : Byte) :
    ∀ lo, m.rising lo = true → lo < k → (Memory.write m k v).rising lo = true := by
  have weaken : ∀ (m : Memory) (lo lo' : Nat), lo ≤ lo' → m.rising lo' = true → m.rising lo = true := by
    intro m lo lo' hle h
    cases m with
    | nil => rfl
    | cons c m =>
      simp only [Memory.rising, Bool.and_eq_true, decide_eq_true_eq] at h ⊢
      exact ⟨by omega, h.2⟩
  induction m with
  | nil =>
    intro lo _ hk
    by_cases hv : v = Memory.unlisted <;> simp [Memory.write, hv, Memory.rising, hk]
  | cons c m ih =>
    obtain ⟨a, b⟩ := c
    intro lo h hk
    simp only [Memory.rising, Bool.and_eq_true, decide_eq_true_eq] at h
    simp only [Memory.write]
    by_cases hlt : k < a
    · by_cases hv : v = Memory.unlisted <;> simp [hlt, hv, Memory.rising, h, hk]
    · by_cases heq : k = a
      · subst heq
        by_cases hv : v = Memory.unlisted
        · simpa [hv] using weaken m lo k (by omega) h.2
        · simp [hv, Memory.rising, h]
      · simp [hlt, heq, Memory.rising, h.1, ih a h.2 (by omega)]

theorem Memory.mem_write {m : Memory} {k : Nat} {v : Byte} {c : Host.Cell} (h : c ∈ Memory.write m k v) :
    c ∈ m ∨ (c = (k, v) ∧ v ≠ Memory.unlisted) := by
  induction m with
  | nil =>
    by_cases hv : v = Memory.unlisted <;> simp_all [Memory.write]
  | cons d m ih =>
    obtain ⟨a, b⟩ := d
    simp only [Memory.write] at h
    by_cases hlt : k < a
    · by_cases hv : v = Memory.unlisted
      · exact .inl (by simpa [hlt, hv] using h)
      · simp only [hlt, hv, if_true, if_false, List.mem_cons] at h
        rcases h with rfl | h
        · exact .inr ⟨rfl, hv⟩
        · exact .inl (List.mem_cons.2 h)
    · by_cases heq : k = a
      · by_cases hv : v = Memory.unlisted
        · exact .inl (List.mem_cons_of_mem _ (by simpa [heq, hv] using h))
        · simp only [heq, hv, if_true, if_false, lt_irrefl, List.mem_cons] at h
          rcases h with rfl | h
          · exact .inr ⟨by rw [heq], hv⟩
          · exact .inl (List.mem_cons_of_mem _ h)
      · simp only [hlt, heq, if_false, List.mem_cons] at h
        rcases h with rfl | h
        · exact .inl List.mem_cons_self
        · exact (ih h).imp_left (List.mem_cons_of_mem _)

/-- A write to a RAM or cartridge address keeps the canonical form. -/
theorem Memory.write_wf {m : Memory} {k : Nat} (v : Byte) (h : m.wf = true) (hk : Memory.isCellAddr k = true) :
    (Memory.write m k v).wf = true := by
  simp only [Memory.wf, Bool.and_eq_true, List.all_eq_true, bne_iff_ne] at h ⊢
  have hpos : 0 < k := by
    rcases Nat.eq_zero_or_pos k with rfl | h0
    · simp [Memory.isCellAddr] at hk
    · exact h0
  refine ⟨Memory.write_rising m k v 0 h.1 hpos, fun c hc => ?_⟩
  rcases Memory.mem_write hc with hc | ⟨rfl, hv⟩
  · exact h.2 c hc
  · exact ⟨hv, hk⟩

/-- In a memory in canonical form, a byte reads as it was last written. -/
theorem Memory.read_write {m : Memory} (h : m.wf = true) (k : Nat) (v : Byte) (j : Nat) :
    Memory.read (Memory.write m k v) j = if j = k then v else Memory.read m j := by
  simp only [Memory.wf, Bool.and_eq_true] at h
  by_cases hj : j = k
  · subst hj; simp [Memory.read_write_same m j v 0 h.1]
  · simp [hj, Memory.read_write_ne m k v hj]

theorem ramCell_isCellAddr (i : BitVec 7) : Memory.isCellAddr (ramCell i) = true := by
  have := i.isLt
  unfold Memory.isCellAddr ramCell
  simp
  omega

theorem romCell_isCellAddr (i : BitVec 12) : Memory.isCellAddr (romCell i) = true := by
  have := i.isLt
  unfold Memory.isCellAddr romCell
  simp
  omega

theorem reset_mem_wf : Memory.wf State.reset.mem = true := rfl

theorem ramTarget_isCellAddr {addr : Word} {k : Nat} (h : ramTarget addr = some k) : Memory.isCellAddr k = true := by
  unfold ramTarget at h
  split at h
  · cases h; exact ramCell_isCellAddr _
  · cases h

theorem plainTarget_isCellAddr {addr : Word} {k : Nat} (h : plainTarget addr = some k) :
    Memory.isCellAddr k = true := by
  unfold plainTarget at h
  split at h
  · cases h; exact ramCell_isCellAddr _
  · cases h; exact romCell_isCellAddr _
  · cases h

/-- A CPU write keeps the canonical form. -/
theorem memAfterWrite_wf {a13 : Addr13} {v : Byte} {s : State} (h : s.mem.wf = true) :
    (memAfterWrite a13 v s).wf = true := by
  unfold memAfterWrite
  split
  · exact Memory.write_wf v h (ramCell_isCellAddr _)
  · exact h

/-- What a CPU write stores where. -/
theorem read_memAfterWrite {addr : Word} {v : Byte} {s : State} (h : s.mem.wf = true) (k : Nat) :
    Memory.read (memAfterWrite (busAddr addr) v s) k =
      if ramTarget addr = some k then v else Memory.read s.mem k := by
  unfold memAfterWrite ramTarget
  split
  · rename_i i heq
    simp only [Memory.read_write h, Option.some.injEq, eq_comm]
  · simp

/-! ### Cartridge images -/

/-- The canonical form does not depend on cells that are left out. -/
theorem Memory.rising_filter (p : Host.Cell → Bool) (m : Memory) :
    ∀ lo lo', lo' ≤ lo → m.rising lo = true → Memory.rising lo' (m.filter p) = true := by
  induction m with
  | nil => intros; rfl
  | cons c m ih =>
    intro lo lo' hlo h
    simp only [Memory.rising, Bool.and_eq_true, decide_eq_true_eq] at h
    by_cases hc : p c = true
    · simp only [List.filter_cons_of_pos hc, Memory.rising, Bool.and_eq_true, decide_eq_true_eq]
      exact ⟨by omega, ih _ _ (le_refl _) h.2⟩
    · rw [List.filter_cons_of_neg hc]
      exact ih _ _ (by omega) h.2

/-- Reset keeps the canonical form. -/
theorem romPart_wf {m : Memory} (h : m.wf = true) : (romPart m).wf = true := by
  simp only [Memory.wf, Bool.and_eq_true, List.all_eq_true] at h ⊢
  exact ⟨Memory.rising_filter _ m 0 0 (le_refl 0) h.1, fun c hc => h.2 c (List.mem_of_mem_filter hc)⟩

/-- Reset keeps the cartridge's bytes. -/
theorem read_romPart (m : Memory) {k : Nat} (hk : 0x1000 ≤ k) : Memory.read (romPart m) k = Memory.read m k := by
  induction m with
  | nil => rfl
  | cons c m ih =>
    unfold romPart at ih ⊢
    by_cases hc : 0x1000 ≤ c.1
    · rw [List.filter_cons_of_pos (by simpa using hc), Memory.read, Memory.read, ih]
    · rw [List.filter_cons_of_neg (by simpa using hc), ih, Memory.read, if_neg (by omega)]

/-- Reset keeps no byte of RAM. -/
theorem romPart_ge {m : Memory} {c : Host.Cell} (h : c ∈ romPart m) : 0x1000 ≤ c.1 := by
  simpa using (List.mem_filter.mp h).2

/-- The image of a cartridge is in canonical form. -/
theorem romImage_wf (bytes : List Byte) : ∀ off, (romImage off bytes).wf = true := by
  induction bytes with
  | nil => intro off; rfl
  | cons b bs ih => exact fun off => Memory.write_wf b (ih _) (romCell_isCellAddr _)

/-- The image of a cartridge holds its bytes from the offset on. -/
theorem read_romImage (bytes : List Byte) : ∀ off k, off + bytes.length ≤ 4096 → k < bytes.length →
    Memory.read (romImage off bytes) (0x1000 + (off + k)) = bytes.getD k 0 := by
  induction bytes with
  | nil => intro off k _ hk; simp at hk
  | cons b bs ih =>
    intro off k hlen hk
    simp only [List.length_cons] at hlen hk
    have hcell : romCell (BitVec.ofNat 12 off) = 0x1000 + off := by
      simp only [romCell, BitVec.toNat_ofNat]
      omega
    rw [romImage, Memory.read_write (romImage_wf bs _), hcell]
    cases k with
    | zero => simp
    | succ k =>
      rw [if_neg (by omega), show off + (k + 1) = off + 1 + k by omega, ih (off + 1) k (by omega) (by omega)]
      simp

end Sys2Proof.Machine
end

