-- ==== Sys2Proof/Laws/Riot.lean ====
section
/-! SUPPORT. The RIOT: what a step and a read keep. -/

namespace Sys2Proof.Machine

theorem Divisor.cycles_pos (d : Divisor) : 1 ≤ d.cycles := by cases d <;> decide

theorem timerTick_kept (r : Riot) : (timerTick r).registers = r.registers ∧ (timerTick r).inbox = r.inbox := by
  unfold timerTick timerCount
  split <;> [split <;> exact ⟨rfl, rfl⟩; exact ⟨rfl, rfl⟩]

/-- A tick keeps prescale between 1 and the divisor (63_riot.md R453). -/
theorem timerTick_Ok {r : Riot} (h : r.Ok) : (timerTick r).Ok := by
  obtain ⟨h1, h2, h3⟩ := h
  unfold timerTick timerCount
  split
  · split
    · exact ⟨le_refl _, le_refl _, fun _ => rfl⟩
    · exact ⟨Divisor.cycles_pos _, le_refl _, h3⟩
  · refine ⟨?_, ?_, h3⟩ <;> dsimp only at * <;> omega

theorem riotWrite_inbox (reg : RiotReg) (v : Byte) (r : Riot) : (riotWrite reg v r).inbox = r.inbox := by
  cases reg <;> rfl

theorem riotWrite_Ok {r : Riot} (reg : RiotReg) (v : Byte) (h : r.Ok) : (riotWrite reg v r).Ok := by
  cases reg <;> first | exact h | exact ⟨le_refl 1, Divisor.cycles_pos _, fun h => nomatch h⟩

/-- What a write does to the ports depends on the ports alone. -/
theorem riotWrite_registers {r q : Riot} (reg : RiotReg) (v : Byte) (h : q.registers = r.registers) :
    (riotWrite reg v q).registers = (riotWrite reg v r).registers := by
  simp only [Riot.registers, Riot.mk.injEq, true_and, and_true] at h
  cases reg <;> simp only [riotWrite, loadTimer, Riot.registers, h]

theorem serviceAndTick_idle {r : Riot} (h : r.inbox = none) : serviceAndTick r = timerTick r := by
  unfold serviceAndTick
  rw [h]

/-- The ports after the service of the inbox. -/
def Riot.serviced (r : Riot) : Riot :=
  match r.inbox with
  | none => r.registers
  | some w => (riotWrite w.1 w.2 r).registers

theorem serviceAndTick_kept (r : Riot) :
    (serviceAndTick r).inbox = none ∧ (r.Ok → (serviceAndTick r).Ok) ∧
      (serviceAndTick r).registers = r.serviced := by
  unfold serviceAndTick Riot.serviced
  split
  · rename_i hi
    exact ⟨(timerTick_kept r).2.trans hi, timerTick_Ok, by rw [hi]; exact (timerTick_kept r).1⟩
  · rename_i d v hi
    exact ⟨rfl, fun h => riotWrite_Ok (.timer d) v (r := { r with inbox := none }) h, by rw [hi]; rfl⟩
  · rename_i reg v _ hi
    refine ⟨?_, fun h => timerTick_Ok (riotWrite_Ok reg v (r := { r with inbox := none }) h), ?_⟩
    · rw [(timerTick_kept _).2, riotWrite_inbox]
    · rw [hi, (timerTick_kept _).1]
      exact riotWrite_registers reg v rfl

theorem detectEdge_kept (pin : Bool) (r : Riot) :
    (detectEdge pin r).inbox = r.inbox ∧ (r.Ok → (detectEdge pin r).Ok) ∧
      (detectEdge pin r).registers = r.registers := ⟨rfl, id, rfl⟩

/-- What one RIOT step does to the inbox, the ports and the ranges (63_riot.md R450). -/
theorem riotStep_kept (pin : Bool) (r : Riot) :
    (riotStep pin r).inbox = none ∧ (r.Ok → (riotStep pin r).Ok) ∧
      (riotStep pin r).registers = r.serviced := by
  obtain ⟨h1, h2, h3⟩ := serviceAndTick_kept { r with expiredNow := false }
  refine ⟨h1, fun h => h2 ⟨h.1, h.2.1, fun e => nomatch e⟩, ?_⟩
  refine Eq.trans h3 ?_
  unfold Riot.serviced
  cases r.inbox with
  | none => rfl
  | some e => exact riotWrite_registers e.1 e.2 rfl

/-- A read changes no port, no inbox and no range (20_memory.md R90). -/
theorem riotRead_kept (a13 : Addr13) (pa pb : Byte) (r : Riot) :
    (riotRead a13 pa pb r).2.inbox = r.inbox ∧ (r.Ok → (riotRead a13 pa pb r).2.Ok) ∧
      (riotRead a13 pa pb r).2.registers = r.registers := by
  unfold riotRead
  split
  · split
    · exact ⟨rfl, id, rfl⟩
    · refine ⟨rfl, fun h => ⟨h.1, h.2.1, fun e => ?_⟩, rfl⟩
      have e' : r.expiredNow = true := e
      simp [readIntim, e', h.2.2 e']
  · split <;> exact ⟨rfl, id, rfl⟩

end Sys2Proof.Machine
end

