-- ==== Sys2Proof/Laws/State.lean ====
section
/-! SUPPORT. One lemma for each update of State and each field, so that no proof unfolds a record update. -/

namespace Sys2Proof.Machine

section setA
variable (s : State) (v : Byte)
@[simp] theorem State.setA_a : (s.setA v).a = v := rfl
@[simp] theorem State.setA_x : (s.setA v).x = s.x := rfl
@[simp] theorem State.setA_y : (s.setA v).y = s.y := rfl
@[simp] theorem State.setA_sp : (s.setA v).sp = s.sp := rfl
@[simp] theorem State.setA_pc : (s.setA v).pc = s.pc := rfl
@[simp] theorem State.setA_p : (s.setA v).p = s.p := rfl
@[simp] theorem State.setA_irqLine : (s.setA v).irqLine = s.irqLine := rfl
@[simp] theorem State.setA_nmiLine : (s.setA v).nmiLine = s.nmiLine := rfl
@[simp] theorem State.setA_nmiPending : (s.setA v).nmiPending = s.nmiPending := rfl
@[simp] theorem State.setA_halted : (s.setA v).halted = s.halted := rfl
@[simp] theorem State.setA_fault : (s.setA v).fault = s.fault := rfl
@[simp] theorem State.setA_reports : (s.setA v).reports = s.reports := rfl
@[simp] theorem State.setA_cycleCount : (s.setA v).cycleCount = s.cycleCount := rfl
@[simp] theorem State.setA_last : (s.setA v).last = s.last := rfl
@[simp] theorem State.setA_cur : (s.setA v).cur = s.cur := rfl
@[simp] theorem State.setA_tia : (s.setA v).tia = s.tia := rfl
@[simp] theorem State.setA_riot : (s.setA v).riot = s.riot := rfl
@[simp] theorem State.setA_mem : (s.setA v).mem = s.mem := rfl
@[simp] theorem State.setA_cart : (s.setA v).cart = s.cart := rfl
@[simp] theorem State.setA_draws : (s.setA v).draws = s.draws := rfl
@[simp] theorem State.setA_stepCycles : (s.setA v).stepCycles = s.stepCycles := rfl
@[simp] theorem State.setA_signals : (s.setA v).signals = s.signals := rfl
end setA

section setX
variable (s : State) (v : Byte)
@[simp] theorem State.setX_a : (s.setX v).a = s.a := rfl
@[simp] theorem State.setX_x : (s.setX v).x = v := rfl
@[simp] theorem State.setX_y : (s.setX v).y = s.y := rfl
@[simp] theorem State.setX_sp : (s.setX v).sp = s.sp := rfl
@[simp] theorem State.setX_pc : (s.setX v).pc = s.pc := rfl
@[simp] theorem State.setX_p : (s.setX v).p = s.p := rfl
@[simp] theorem State.setX_irqLine : (s.setX v).irqLine = s.irqLine := rfl
@[simp] theorem State.setX_nmiLine : (s.setX v).nmiLine = s.nmiLine := rfl
@[simp] theorem State.setX_nmiPending : (s.setX v).nmiPending = s.nmiPending := rfl
@[simp] theorem State.setX_halted : (s.setX v).halted = s.halted := rfl
@[simp] theorem State.setX_fault : (s.setX v).fault = s.fault := rfl
@[simp] theorem State.setX_reports : (s.setX v).reports = s.reports := rfl
@[simp] theorem State.setX_cycleCount : (s.setX v).cycleCount = s.cycleCount := rfl
@[simp] theorem State.setX_last : (s.setX v).last = s.last := rfl
@[simp] theorem State.setX_cur : (s.setX v).cur = s.cur := rfl
@[simp] theorem State.setX_tia : (s.setX v).tia = s.tia := rfl
@[simp] theorem State.setX_riot : (s.setX v).riot = s.riot := rfl
@[simp] theorem State.setX_mem : (s.setX v).mem = s.mem := rfl
@[simp] theorem State.setX_cart : (s.setX v).cart = s.cart := rfl
@[simp] theorem State.setX_draws : (s.setX v).draws = s.draws := rfl
@[simp] theorem State.setX_stepCycles : (s.setX v).stepCycles = s.stepCycles := rfl
@[simp] theorem State.setX_signals : (s.setX v).signals = s.signals := rfl
end setX

section setY
variable (s : State) (v : Byte)
@[simp] theorem State.setY_a : (s.setY v).a = s.a := rfl
@[simp] theorem State.setY_x : (s.setY v).x = s.x := rfl
@[simp] theorem State.setY_y : (s.setY v).y = v := rfl
@[simp] theorem State.setY_sp : (s.setY v).sp = s.sp := rfl
@[simp] theorem State.setY_pc : (s.setY v).pc = s.pc := rfl
@[simp] theorem State.setY_p : (s.setY v).p = s.p := rfl
@[simp] theorem State.setY_irqLine : (s.setY v).irqLine = s.irqLine := rfl
@[simp] theorem State.setY_nmiLine : (s.setY v).nmiLine = s.nmiLine := rfl
@[simp] theorem State.setY_nmiPending : (s.setY v).nmiPending = s.nmiPending := rfl
@[simp] theorem State.setY_halted : (s.setY v).halted = s.halted := rfl
@[simp] theorem State.setY_fault : (s.setY v).fault = s.fault := rfl
@[simp] theorem State.setY_reports : (s.setY v).reports = s.reports := rfl
@[simp] theorem State.setY_cycleCount : (s.setY v).cycleCount = s.cycleCount := rfl
@[simp] theorem State.setY_last : (s.setY v).last = s.last := rfl
@[simp] theorem State.setY_cur : (s.setY v).cur = s.cur := rfl
@[simp] theorem State.setY_tia : (s.setY v).tia = s.tia := rfl
@[simp] theorem State.setY_riot : (s.setY v).riot = s.riot := rfl
@[simp] theorem State.setY_mem : (s.setY v).mem = s.mem := rfl
@[simp] theorem State.setY_cart : (s.setY v).cart = s.cart := rfl
@[simp] theorem State.setY_draws : (s.setY v).draws = s.draws := rfl
@[simp] theorem State.setY_stepCycles : (s.setY v).stepCycles = s.stepCycles := rfl
@[simp] theorem State.setY_signals : (s.setY v).signals = s.signals := rfl
end setY

section setSp
variable (s : State) (v : Byte)
@[simp] theorem State.setSp_a : (s.setSp v).a = s.a := rfl
@[simp] theorem State.setSp_x : (s.setSp v).x = s.x := rfl
@[simp] theorem State.setSp_y : (s.setSp v).y = s.y := rfl
@[simp] theorem State.setSp_sp : (s.setSp v).sp = v := rfl
@[simp] theorem State.setSp_pc : (s.setSp v).pc = s.pc := rfl
@[simp] theorem State.setSp_p : (s.setSp v).p = s.p := rfl
@[simp] theorem State.setSp_irqLine : (s.setSp v).irqLine = s.irqLine := rfl
@[simp] theorem State.setSp_nmiLine : (s.setSp v).nmiLine = s.nmiLine := rfl
@[simp] theorem State.setSp_nmiPending : (s.setSp v).nmiPending = s.nmiPending := rfl
@[simp] theorem State.setSp_halted : (s.setSp v).halted = s.halted := rfl
@[simp] theorem State.setSp_fault : (s.setSp v).fault = s.fault := rfl
@[simp] theorem State.setSp_reports : (s.setSp v).reports = s.reports := rfl
@[simp] theorem State.setSp_cycleCount : (s.setSp v).cycleCount = s.cycleCount := rfl
@[simp] theorem State.setSp_last : (s.setSp v).last = s.last := rfl
@[simp] theorem State.setSp_cur : (s.setSp v).cur = s.cur := rfl
@[simp] theorem State.setSp_tia : (s.setSp v).tia = s.tia := rfl
@[simp] theorem State.setSp_riot : (s.setSp v).riot = s.riot := rfl
@[simp] theorem State.setSp_mem : (s.setSp v).mem = s.mem := rfl
@[simp] theorem State.setSp_cart : (s.setSp v).cart = s.cart := rfl
@[simp] theorem State.setSp_draws : (s.setSp v).draws = s.draws := rfl
@[simp] theorem State.setSp_stepCycles : (s.setSp v).stepCycles = s.stepCycles := rfl
@[simp] theorem State.setSp_signals : (s.setSp v).signals = s.signals := rfl
end setSp

section setPc
variable (s : State) (v : Word)
@[simp] theorem State.setPc_a : (s.setPc v).a = s.a := rfl
@[simp] theorem State.setPc_x : (s.setPc v).x = s.x := rfl
@[simp] theorem State.setPc_y : (s.setPc v).y = s.y := rfl
@[simp] theorem State.setPc_sp : (s.setPc v).sp = s.sp := rfl
@[simp] theorem State.setPc_pc : (s.setPc v).pc = v := rfl
@[simp] theorem State.setPc_p : (s.setPc v).p = s.p := rfl
@[simp] theorem State.setPc_irqLine : (s.setPc v).irqLine = s.irqLine := rfl
@[simp] theorem State.setPc_nmiLine : (s.setPc v).nmiLine = s.nmiLine := rfl
@[simp] theorem State.setPc_nmiPending : (s.setPc v).nmiPending = s.nmiPending := rfl
@[simp] theorem State.setPc_halted : (s.setPc v).halted = s.halted := rfl
@[simp] theorem State.setPc_fault : (s.setPc v).fault = s.fault := rfl
@[simp] theorem State.setPc_reports : (s.setPc v).reports = s.reports := rfl
@[simp] theorem State.setPc_cycleCount : (s.setPc v).cycleCount = s.cycleCount := rfl
@[simp] theorem State.setPc_last : (s.setPc v).last = s.last := rfl
@[simp] theorem State.setPc_cur : (s.setPc v).cur = s.cur := rfl
@[simp] theorem State.setPc_tia : (s.setPc v).tia = s.tia := rfl
@[simp] theorem State.setPc_riot : (s.setPc v).riot = s.riot := rfl
@[simp] theorem State.setPc_mem : (s.setPc v).mem = s.mem := rfl
@[simp] theorem State.setPc_cart : (s.setPc v).cart = s.cart := rfl
@[simp] theorem State.setPc_draws : (s.setPc v).draws = s.draws := rfl
@[simp] theorem State.setPc_stepCycles : (s.setPc v).stepCycles = s.stepCycles := rfl
@[simp] theorem State.setPc_signals : (s.setPc v).signals = s.signals := rfl
end setPc

section setP
variable (s : State) (v : Status)
@[simp] theorem State.setP_a : (s.setP v).a = s.a := rfl
@[simp] theorem State.setP_x : (s.setP v).x = s.x := rfl
@[simp] theorem State.setP_y : (s.setP v).y = s.y := rfl
@[simp] theorem State.setP_sp : (s.setP v).sp = s.sp := rfl
@[simp] theorem State.setP_pc : (s.setP v).pc = s.pc := rfl
@[simp] theorem State.setP_p : (s.setP v).p = v := rfl
@[simp] theorem State.setP_irqLine : (s.setP v).irqLine = s.irqLine := rfl
@[simp] theorem State.setP_nmiLine : (s.setP v).nmiLine = s.nmiLine := rfl
@[simp] theorem State.setP_nmiPending : (s.setP v).nmiPending = s.nmiPending := rfl
@[simp] theorem State.setP_halted : (s.setP v).halted = s.halted := rfl
@[simp] theorem State.setP_fault : (s.setP v).fault = s.fault := rfl
@[simp] theorem State.setP_reports : (s.setP v).reports = s.reports := rfl
@[simp] theorem State.setP_cycleCount : (s.setP v).cycleCount = s.cycleCount := rfl
@[simp] theorem State.setP_last : (s.setP v).last = s.last := rfl
@[simp] theorem State.setP_cur : (s.setP v).cur = s.cur := rfl
@[simp] theorem State.setP_tia : (s.setP v).tia = s.tia := rfl
@[simp] theorem State.setP_riot : (s.setP v).riot = s.riot := rfl
@[simp] theorem State.setP_mem : (s.setP v).mem = s.mem := rfl
@[simp] theorem State.setP_cart : (s.setP v).cart = s.cart := rfl
@[simp] theorem State.setP_draws : (s.setP v).draws = s.draws := rfl
@[simp] theorem State.setP_stepCycles : (s.setP v).stepCycles = s.stepCycles := rfl
@[simp] theorem State.setP_signals : (s.setP v).signals = s.signals := rfl
end setP

section setCur
variable (s : State) (v : LastResult)
@[simp] theorem State.setCur_a : (s.setCur v).a = s.a := rfl
@[simp] theorem State.setCur_x : (s.setCur v).x = s.x := rfl
@[simp] theorem State.setCur_y : (s.setCur v).y = s.y := rfl
@[simp] theorem State.setCur_sp : (s.setCur v).sp = s.sp := rfl
@[simp] theorem State.setCur_pc : (s.setCur v).pc = s.pc := rfl
@[simp] theorem State.setCur_p : (s.setCur v).p = s.p := rfl
@[simp] theorem State.setCur_irqLine : (s.setCur v).irqLine = s.irqLine := rfl
@[simp] theorem State.setCur_nmiLine : (s.setCur v).nmiLine = s.nmiLine := rfl
@[simp] theorem State.setCur_nmiPending : (s.setCur v).nmiPending = s.nmiPending := rfl
@[simp] theorem State.setCur_halted : (s.setCur v).halted = s.halted := rfl
@[simp] theorem State.setCur_fault : (s.setCur v).fault = s.fault := rfl
@[simp] theorem State.setCur_reports : (s.setCur v).reports = s.reports := rfl
@[simp] theorem State.setCur_cycleCount : (s.setCur v).cycleCount = s.cycleCount := rfl
@[simp] theorem State.setCur_last : (s.setCur v).last = s.last := rfl
@[simp] theorem State.setCur_cur : (s.setCur v).cur = v := rfl
@[simp] theorem State.setCur_tia : (s.setCur v).tia = s.tia := rfl
@[simp] theorem State.setCur_riot : (s.setCur v).riot = s.riot := rfl
@[simp] theorem State.setCur_mem : (s.setCur v).mem = s.mem := rfl
@[simp] theorem State.setCur_cart : (s.setCur v).cart = s.cart := rfl
@[simp] theorem State.setCur_draws : (s.setCur v).draws = s.draws := rfl
@[simp] theorem State.setCur_stepCycles : (s.setCur v).stepCycles = s.stepCycles := rfl
@[simp] theorem State.setCur_signals : (s.setCur v).signals = s.signals := rfl
end setCur

section setMem
variable (s : State) (v : Memory)
@[simp] theorem State.setMem_a : (s.setMem v).a = s.a := rfl
@[simp] theorem State.setMem_x : (s.setMem v).x = s.x := rfl
@[simp] theorem State.setMem_y : (s.setMem v).y = s.y := rfl
@[simp] theorem State.setMem_sp : (s.setMem v).sp = s.sp := rfl
@[simp] theorem State.setMem_pc : (s.setMem v).pc = s.pc := rfl
@[simp] theorem State.setMem_p : (s.setMem v).p = s.p := rfl
@[simp] theorem State.setMem_irqLine : (s.setMem v).irqLine = s.irqLine := rfl
@[simp] theorem State.setMem_nmiLine : (s.setMem v).nmiLine = s.nmiLine := rfl
@[simp] theorem State.setMem_nmiPending : (s.setMem v).nmiPending = s.nmiPending := rfl
@[simp] theorem State.setMem_halted : (s.setMem v).halted = s.halted := rfl
@[simp] theorem State.setMem_fault : (s.setMem v).fault = s.fault := rfl
@[simp] theorem State.setMem_reports : (s.setMem v).reports = s.reports := rfl
@[simp] theorem State.setMem_cycleCount : (s.setMem v).cycleCount = s.cycleCount := rfl
@[simp] theorem State.setMem_last : (s.setMem v).last = s.last := rfl
@[simp] theorem State.setMem_cur : (s.setMem v).cur = s.cur := rfl
@[simp] theorem State.setMem_tia : (s.setMem v).tia = s.tia := rfl
@[simp] theorem State.setMem_riot : (s.setMem v).riot = s.riot := rfl
@[simp] theorem State.setMem_mem : (s.setMem v).mem = v := rfl
@[simp] theorem State.setMem_cart : (s.setMem v).cart = s.cart := rfl
@[simp] theorem State.setMem_draws : (s.setMem v).draws = s.draws := rfl
@[simp] theorem State.setMem_stepCycles : (s.setMem v).stepCycles = s.stepCycles := rfl
@[simp] theorem State.setMem_signals : (s.setMem v).signals = s.signals := rfl
end setMem

section setTia
variable (s : State) (v : Tia)
@[simp] theorem State.setTia_a : (s.setTia v).a = s.a := rfl
@[simp] theorem State.setTia_x : (s.setTia v).x = s.x := rfl
@[simp] theorem State.setTia_y : (s.setTia v).y = s.y := rfl
@[simp] theorem State.setTia_sp : (s.setTia v).sp = s.sp := rfl
@[simp] theorem State.setTia_pc : (s.setTia v).pc = s.pc := rfl
@[simp] theorem State.setTia_p : (s.setTia v).p = s.p := rfl
@[simp] theorem State.setTia_irqLine : (s.setTia v).irqLine = s.irqLine := rfl
@[simp] theorem State.setTia_nmiLine : (s.setTia v).nmiLine = s.nmiLine := rfl
@[simp] theorem State.setTia_nmiPending : (s.setTia v).nmiPending = s.nmiPending := rfl
@[simp] theorem State.setTia_halted : (s.setTia v).halted = s.halted := rfl
@[simp] theorem State.setTia_fault : (s.setTia v).fault = s.fault := rfl
@[simp] theorem State.setTia_reports : (s.setTia v).reports = s.reports := rfl
@[simp] theorem State.setTia_cycleCount : (s.setTia v).cycleCount = s.cycleCount := rfl
@[simp] theorem State.setTia_last : (s.setTia v).last = s.last := rfl
@[simp] theorem State.setTia_cur : (s.setTia v).cur = s.cur := rfl
@[simp] theorem State.setTia_tia : (s.setTia v).tia = v := rfl
@[simp] theorem State.setTia_riot : (s.setTia v).riot = s.riot := rfl
@[simp] theorem State.setTia_mem : (s.setTia v).mem = s.mem := rfl
@[simp] theorem State.setTia_cart : (s.setTia v).cart = s.cart := rfl
@[simp] theorem State.setTia_draws : (s.setTia v).draws = s.draws := rfl
@[simp] theorem State.setTia_stepCycles : (s.setTia v).stepCycles = s.stepCycles := rfl
@[simp] theorem State.setTia_signals : (s.setTia v).signals = s.signals := rfl
end setTia

section setRiot
variable (s : State) (v : Riot)
@[simp] theorem State.setRiot_a : (s.setRiot v).a = s.a := rfl
@[simp] theorem State.setRiot_x : (s.setRiot v).x = s.x := rfl
@[simp] theorem State.setRiot_y : (s.setRiot v).y = s.y := rfl
@[simp] theorem State.setRiot_sp : (s.setRiot v).sp = s.sp := rfl
@[simp] theorem State.setRiot_pc : (s.setRiot v).pc = s.pc := rfl
@[simp] theorem State.setRiot_p : (s.setRiot v).p = s.p := rfl
@[simp] theorem State.setRiot_irqLine : (s.setRiot v).irqLine = s.irqLine := rfl
@[simp] theorem State.setRiot_nmiLine : (s.setRiot v).nmiLine = s.nmiLine := rfl
@[simp] theorem State.setRiot_nmiPending : (s.setRiot v).nmiPending = s.nmiPending := rfl
@[simp] theorem State.setRiot_halted : (s.setRiot v).halted = s.halted := rfl
@[simp] theorem State.setRiot_fault : (s.setRiot v).fault = s.fault := rfl
@[simp] theorem State.setRiot_reports : (s.setRiot v).reports = s.reports := rfl
@[simp] theorem State.setRiot_cycleCount : (s.setRiot v).cycleCount = s.cycleCount := rfl
@[simp] theorem State.setRiot_last : (s.setRiot v).last = s.last := rfl
@[simp] theorem State.setRiot_cur : (s.setRiot v).cur = s.cur := rfl
@[simp] theorem State.setRiot_tia : (s.setRiot v).tia = s.tia := rfl
@[simp] theorem State.setRiot_riot : (s.setRiot v).riot = v := rfl
@[simp] theorem State.setRiot_mem : (s.setRiot v).mem = s.mem := rfl
@[simp] theorem State.setRiot_cart : (s.setRiot v).cart = s.cart := rfl
@[simp] theorem State.setRiot_draws : (s.setRiot v).draws = s.draws := rfl
@[simp] theorem State.setRiot_stepCycles : (s.setRiot v).stepCycles = s.stepCycles := rfl
@[simp] theorem State.setRiot_signals : (s.setRiot v).signals = s.signals := rfl
end setRiot

section setCart
variable (s : State) (v : Cart)
@[simp] theorem State.setCart_a : (s.setCart v).a = s.a := rfl
@[simp] theorem State.setCart_x : (s.setCart v).x = s.x := rfl
@[simp] theorem State.setCart_y : (s.setCart v).y = s.y := rfl
@[simp] theorem State.setCart_sp : (s.setCart v).sp = s.sp := rfl
@[simp] theorem State.setCart_pc : (s.setCart v).pc = s.pc := rfl
@[simp] theorem State.setCart_p : (s.setCart v).p = s.p := rfl
@[simp] theorem State.setCart_irqLine : (s.setCart v).irqLine = s.irqLine := rfl
@[simp] theorem State.setCart_nmiLine : (s.setCart v).nmiLine = s.nmiLine := rfl
@[simp] theorem State.setCart_nmiPending : (s.setCart v).nmiPending = s.nmiPending := rfl
@[simp] theorem State.setCart_halted : (s.setCart v).halted = s.halted := rfl
@[simp] theorem State.setCart_fault : (s.setCart v).fault = s.fault := rfl
@[simp] theorem State.setCart_reports : (s.setCart v).reports = s.reports := rfl
@[simp] theorem State.setCart_cycleCount : (s.setCart v).cycleCount = s.cycleCount := rfl
@[simp] theorem State.setCart_last : (s.setCart v).last = s.last := rfl
@[simp] theorem State.setCart_cur : (s.setCart v).cur = s.cur := rfl
@[simp] theorem State.setCart_tia : (s.setCart v).tia = s.tia := rfl
@[simp] theorem State.setCart_riot : (s.setCart v).riot = s.riot := rfl
@[simp] theorem State.setCart_mem : (s.setCart v).mem = s.mem := rfl
@[simp] theorem State.setCart_cart : (s.setCart v).cart = v := rfl
@[simp] theorem State.setCart_draws : (s.setCart v).draws = s.draws := rfl
@[simp] theorem State.setCart_stepCycles : (s.setCart v).stepCycles = s.stepCycles := rfl
@[simp] theorem State.setCart_signals : (s.setCart v).signals = s.signals := rfl
end setCart

section setHalted
variable (s : State) (v : Bool)
@[simp] theorem State.setHalted_a : (s.setHalted v).a = s.a := rfl
@[simp] theorem State.setHalted_x : (s.setHalted v).x = s.x := rfl
@[simp] theorem State.setHalted_y : (s.setHalted v).y = s.y := rfl
@[simp] theorem State.setHalted_sp : (s.setHalted v).sp = s.sp := rfl
@[simp] theorem State.setHalted_pc : (s.setHalted v).pc = s.pc := rfl
@[simp] theorem State.setHalted_p : (s.setHalted v).p = s.p := rfl
@[simp] theorem State.setHalted_irqLine : (s.setHalted v).irqLine = s.irqLine := rfl
@[simp] theorem State.setHalted_nmiLine : (s.setHalted v).nmiLine = s.nmiLine := rfl
@[simp] theorem State.setHalted_nmiPending : (s.setHalted v).nmiPending = s.nmiPending := rfl
@[simp] theorem State.setHalted_halted : (s.setHalted v).halted = v := rfl
@[simp] theorem State.setHalted_fault : (s.setHalted v).fault = s.fault := rfl
@[simp] theorem State.setHalted_reports : (s.setHalted v).reports = s.reports := rfl
@[simp] theorem State.setHalted_cycleCount : (s.setHalted v).cycleCount = s.cycleCount := rfl
@[simp] theorem State.setHalted_last : (s.setHalted v).last = s.last := rfl
@[simp] theorem State.setHalted_cur : (s.setHalted v).cur = s.cur := rfl
@[simp] theorem State.setHalted_tia : (s.setHalted v).tia = s.tia := rfl
@[simp] theorem State.setHalted_riot : (s.setHalted v).riot = s.riot := rfl
@[simp] theorem State.setHalted_mem : (s.setHalted v).mem = s.mem := rfl
@[simp] theorem State.setHalted_cart : (s.setHalted v).cart = s.cart := rfl
@[simp] theorem State.setHalted_draws : (s.setHalted v).draws = s.draws := rfl
@[simp] theorem State.setHalted_stepCycles : (s.setHalted v).stepCycles = s.stepCycles := rfl
@[simp] theorem State.setHalted_signals : (s.setHalted v).signals = s.signals := rfl
end setHalted

section nextDraw
variable (s : State)
@[simp] theorem State.nextDraw_a : s.nextDraw.a = s.a := rfl
@[simp] theorem State.nextDraw_x : s.nextDraw.x = s.x := rfl
@[simp] theorem State.nextDraw_y : s.nextDraw.y = s.y := rfl
@[simp] theorem State.nextDraw_sp : s.nextDraw.sp = s.sp := rfl
@[simp] theorem State.nextDraw_pc : s.nextDraw.pc = s.pc := rfl
@[simp] theorem State.nextDraw_p : s.nextDraw.p = s.p := rfl
@[simp] theorem State.nextDraw_irqLine : s.nextDraw.irqLine = s.irqLine := rfl
@[simp] theorem State.nextDraw_nmiLine : s.nextDraw.nmiLine = s.nmiLine := rfl
@[simp] theorem State.nextDraw_nmiPending : s.nextDraw.nmiPending = s.nmiPending := rfl
@[simp] theorem State.nextDraw_halted : s.nextDraw.halted = s.halted := rfl
@[simp] theorem State.nextDraw_fault : s.nextDraw.fault = s.fault := rfl
@[simp] theorem State.nextDraw_reports : s.nextDraw.reports = s.reports := rfl
@[simp] theorem State.nextDraw_cycleCount : s.nextDraw.cycleCount = s.cycleCount := rfl
@[simp] theorem State.nextDraw_last : s.nextDraw.last = s.last := rfl
@[simp] theorem State.nextDraw_cur : s.nextDraw.cur = s.cur := rfl
@[simp] theorem State.nextDraw_tia : s.nextDraw.tia = s.tia := rfl
@[simp] theorem State.nextDraw_riot : s.nextDraw.riot = s.riot := rfl
@[simp] theorem State.nextDraw_mem : s.nextDraw.mem = s.mem := rfl
@[simp] theorem State.nextDraw_cart : s.nextDraw.cart = s.cart := rfl
@[simp] theorem State.nextDraw_draws : s.nextDraw.draws = s.draws + 1 := rfl
@[simp] theorem State.nextDraw_stepCycles : s.nextDraw.stepCycles = s.stepCycles := rfl
@[simp] theorem State.nextDraw_signals : s.nextDraw.signals = s.signals := rfl
end nextDraw

section incPc
variable (s : State)
@[simp] theorem State.incPc_a : s.incPc.a = s.a := rfl
@[simp] theorem State.incPc_x : s.incPc.x = s.x := rfl
@[simp] theorem State.incPc_y : s.incPc.y = s.y := rfl
@[simp] theorem State.incPc_sp : s.incPc.sp = s.sp := rfl
@[simp] theorem State.incPc_pc : s.incPc.pc = s.pc + 1 := rfl
@[simp] theorem State.incPc_p : s.incPc.p = s.p := rfl
@[simp] theorem State.incPc_irqLine : s.incPc.irqLine = s.irqLine := rfl
@[simp] theorem State.incPc_nmiLine : s.incPc.nmiLine = s.nmiLine := rfl
@[simp] theorem State.incPc_nmiPending : s.incPc.nmiPending = s.nmiPending := rfl
@[simp] theorem State.incPc_halted : s.incPc.halted = s.halted := rfl
@[simp] theorem State.incPc_fault : s.incPc.fault = s.fault := rfl
@[simp] theorem State.incPc_reports :
    s.incPc.reports = if s.pc = 0xFFFF then s.reports ++ [.programCounterCycled] else s.reports := rfl
@[simp] theorem State.incPc_cycleCount : s.incPc.cycleCount = s.cycleCount := rfl
@[simp] theorem State.incPc_last : s.incPc.last = s.last := rfl
@[simp] theorem State.incPc_cur : s.incPc.cur = s.cur := rfl
@[simp] theorem State.incPc_tia : s.incPc.tia = s.tia := rfl
@[simp] theorem State.incPc_riot : s.incPc.riot = s.riot := rfl
@[simp] theorem State.incPc_mem : s.incPc.mem = s.mem := rfl
@[simp] theorem State.incPc_cart : s.incPc.cart = s.cart := rfl
@[simp] theorem State.incPc_draws : s.incPc.draws = s.draws := rfl
@[simp] theorem State.incPc_stepCycles : s.incPc.stepCycles = s.stepCycles := rfl
@[simp] theorem State.incPc_signals : s.incPc.signals = s.signals := rfl
end incPc

section setNZ
variable (s : State) (v : Byte)
@[simp] theorem State.setNZ_a : (s.setNZ v).a = s.a := rfl
@[simp] theorem State.setNZ_x : (s.setNZ v).x = s.x := rfl
@[simp] theorem State.setNZ_y : (s.setNZ v).y = s.y := rfl
@[simp] theorem State.setNZ_sp : (s.setNZ v).sp = s.sp := rfl
@[simp] theorem State.setNZ_pc : (s.setNZ v).pc = s.pc := rfl
@[simp] theorem State.setNZ_p : (s.setNZ v).p = { s.p with n := v.msb, z := v == 0 } := rfl
@[simp] theorem State.setNZ_irqLine : (s.setNZ v).irqLine = s.irqLine := rfl
@[simp] theorem State.setNZ_nmiLine : (s.setNZ v).nmiLine = s.nmiLine := rfl
@[simp] theorem State.setNZ_nmiPending : (s.setNZ v).nmiPending = s.nmiPending := rfl
@[simp] theorem State.setNZ_halted : (s.setNZ v).halted = s.halted := rfl
@[simp] theorem State.setNZ_fault : (s.setNZ v).fault = s.fault := rfl
@[simp] theorem State.setNZ_reports : (s.setNZ v).reports = s.reports := rfl
@[simp] theorem State.setNZ_cycleCount : (s.setNZ v).cycleCount = s.cycleCount := rfl
@[simp] theorem State.setNZ_last : (s.setNZ v).last = s.last := rfl
@[simp] theorem State.setNZ_cur : (s.setNZ v).cur = s.cur := rfl
@[simp] theorem State.setNZ_tia : (s.setNZ v).tia = s.tia := rfl
@[simp] theorem State.setNZ_riot : (s.setNZ v).riot = s.riot := rfl
@[simp] theorem State.setNZ_mem : (s.setNZ v).mem = s.mem := rfl
@[simp] theorem State.setNZ_cart : (s.setNZ v).cart = s.cart := rfl
@[simp] theorem State.setNZ_draws : (s.setNZ v).draws = s.draws := rfl
@[simp] theorem State.setNZ_stepCycles : (s.setNZ v).stepCycles = s.stepCycles := rfl
@[simp] theorem State.setNZ_signals : (s.setNZ v).signals = s.signals := rfl
end setNZ

section setC
variable (s : State) (c : Bool)
@[simp] theorem State.setC_a : (s.setC c).a = s.a := rfl
@[simp] theorem State.setC_x : (s.setC c).x = s.x := rfl
@[simp] theorem State.setC_y : (s.setC c).y = s.y := rfl
@[simp] theorem State.setC_sp : (s.setC c).sp = s.sp := rfl
@[simp] theorem State.setC_pc : (s.setC c).pc = s.pc := rfl
@[simp] theorem State.setC_p : (s.setC c).p = { s.p with c := c } := rfl
@[simp] theorem State.setC_irqLine : (s.setC c).irqLine = s.irqLine := rfl
@[simp] theorem State.setC_nmiLine : (s.setC c).nmiLine = s.nmiLine := rfl
@[simp] theorem State.setC_nmiPending : (s.setC c).nmiPending = s.nmiPending := rfl
@[simp] theorem State.setC_halted : (s.setC c).halted = s.halted := rfl
@[simp] theorem State.setC_fault : (s.setC c).fault = s.fault := rfl
@[simp] theorem State.setC_reports : (s.setC c).reports = s.reports := rfl
@[simp] theorem State.setC_cycleCount : (s.setC c).cycleCount = s.cycleCount := rfl
@[simp] theorem State.setC_last : (s.setC c).last = s.last := rfl
@[simp] theorem State.setC_cur : (s.setC c).cur = s.cur := rfl
@[simp] theorem State.setC_tia : (s.setC c).tia = s.tia := rfl
@[simp] theorem State.setC_riot : (s.setC c).riot = s.riot := rfl
@[simp] theorem State.setC_mem : (s.setC c).mem = s.mem := rfl
@[simp] theorem State.setC_cart : (s.setC c).cart = s.cart := rfl
@[simp] theorem State.setC_draws : (s.setC c).draws = s.draws := rfl
@[simp] theorem State.setC_stepCycles : (s.setC c).stepCycles = s.stepCycles := rfl
@[simp] theorem State.setC_signals : (s.setC c).signals = s.signals := rfl
end setC

section setAlu
variable (s : State) (r : AluResult)
@[simp] theorem State.setAlu_a : (s.setAlu r).a = r.r := rfl
@[simp] theorem State.setAlu_x : (s.setAlu r).x = s.x := rfl
@[simp] theorem State.setAlu_y : (s.setAlu r).y = s.y := rfl
@[simp] theorem State.setAlu_sp : (s.setAlu r).sp = s.sp := rfl
@[simp] theorem State.setAlu_pc : (s.setAlu r).pc = s.pc := rfl
@[simp] theorem State.setAlu_p : (s.setAlu r).p = { s.p with n := r.n, v := r.v, z := r.z, c := r.c } := rfl
@[simp] theorem State.setAlu_irqLine : (s.setAlu r).irqLine = s.irqLine := rfl
@[simp] theorem State.setAlu_nmiLine : (s.setAlu r).nmiLine = s.nmiLine := rfl
@[simp] theorem State.setAlu_nmiPending : (s.setAlu r).nmiPending = s.nmiPending := rfl
@[simp] theorem State.setAlu_halted : (s.setAlu r).halted = s.halted := rfl
@[simp] theorem State.setAlu_fault : (s.setAlu r).fault = s.fault := rfl
@[simp] theorem State.setAlu_reports : (s.setAlu r).reports = s.reports := rfl
@[simp] theorem State.setAlu_cycleCount : (s.setAlu r).cycleCount = s.cycleCount := rfl
@[simp] theorem State.setAlu_last : (s.setAlu r).last = s.last := rfl
@[simp] theorem State.setAlu_cur : (s.setAlu r).cur = s.cur := rfl
@[simp] theorem State.setAlu_tia : (s.setAlu r).tia = s.tia := rfl
@[simp] theorem State.setAlu_riot : (s.setAlu r).riot = s.riot := rfl
@[simp] theorem State.setAlu_mem : (s.setAlu r).mem = s.mem := rfl
@[simp] theorem State.setAlu_cart : (s.setAlu r).cart = s.cart := rfl
@[simp] theorem State.setAlu_draws : (s.setAlu r).draws = s.draws := rfl
@[simp] theorem State.setAlu_stepCycles : (s.setAlu r).stepCycles = s.stepCycles := rfl
@[simp] theorem State.setAlu_signals : (s.setAlu r).signals = s.signals := rfl
end setAlu

section compare
variable (s : State) (r m : Byte)
@[simp] theorem State.compare_a : (s.compare r m).a = s.a := rfl
@[simp] theorem State.compare_x : (s.compare r m).x = s.x := rfl
@[simp] theorem State.compare_y : (s.compare r m).y = s.y := rfl
@[simp] theorem State.compare_sp : (s.compare r m).sp = s.sp := rfl
@[simp] theorem State.compare_pc : (s.compare r m).pc = s.pc := rfl
@[simp] theorem State.compare_p :
    (s.compare r m).p = { s.p with
      n := (BitVec.ofNat 8 (r.toNat + (~~~m).toNat + 1)).msb
      z := r == m
      c := decide (256 ≤ r.toNat + (~~~m).toNat + 1) } := rfl
@[simp] theorem State.compare_irqLine : (s.compare r m).irqLine = s.irqLine := rfl
@[simp] theorem State.compare_nmiLine : (s.compare r m).nmiLine = s.nmiLine := rfl
@[simp] theorem State.compare_nmiPending : (s.compare r m).nmiPending = s.nmiPending := rfl
@[simp] theorem State.compare_halted : (s.compare r m).halted = s.halted := rfl
@[simp] theorem State.compare_fault : (s.compare r m).fault = s.fault := rfl
@[simp] theorem State.compare_reports : (s.compare r m).reports = s.reports := rfl
@[simp] theorem State.compare_cycleCount : (s.compare r m).cycleCount = s.cycleCount := rfl
@[simp] theorem State.compare_last : (s.compare r m).last = s.last := rfl
@[simp] theorem State.compare_cur : (s.compare r m).cur = s.cur := rfl
@[simp] theorem State.compare_tia : (s.compare r m).tia = s.tia := rfl
@[simp] theorem State.compare_riot : (s.compare r m).riot = s.riot := rfl
@[simp] theorem State.compare_mem : (s.compare r m).mem = s.mem := rfl
@[simp] theorem State.compare_cart : (s.compare r m).cart = s.cart := rfl
@[simp] theorem State.compare_draws : (s.compare r m).draws = s.draws := rfl
@[simp] theorem State.compare_stepCycles : (s.compare r m).stepCycles = s.stepCycles := rfl
@[simp] theorem State.compare_signals : (s.compare r m).signals = s.signals := rfl
end compare

section noteEa
variable (s : State) (v : Word)
@[simp] theorem State.noteEa_a : (s.noteEa v).a = s.a := rfl
@[simp] theorem State.noteEa_x : (s.noteEa v).x = s.x := rfl
@[simp] theorem State.noteEa_y : (s.noteEa v).y = s.y := rfl
@[simp] theorem State.noteEa_sp : (s.noteEa v).sp = s.sp := rfl
@[simp] theorem State.noteEa_pc : (s.noteEa v).pc = s.pc := rfl
@[simp] theorem State.noteEa_p : (s.noteEa v).p = s.p := rfl
@[simp] theorem State.noteEa_irqLine : (s.noteEa v).irqLine = s.irqLine := rfl
@[simp] theorem State.noteEa_nmiLine : (s.noteEa v).nmiLine = s.nmiLine := rfl
@[simp] theorem State.noteEa_nmiPending : (s.noteEa v).nmiPending = s.nmiPending := rfl
@[simp] theorem State.noteEa_halted : (s.noteEa v).halted = s.halted := rfl
@[simp] theorem State.noteEa_fault : (s.noteEa v).fault = s.fault := rfl
@[simp] theorem State.noteEa_reports : (s.noteEa v).reports = s.reports := rfl
@[simp] theorem State.noteEa_cycleCount : (s.noteEa v).cycleCount = s.cycleCount := rfl
@[simp] theorem State.noteEa_last : (s.noteEa v).last = s.last := rfl
@[simp] theorem State.noteEa_cur : (s.noteEa v).cur = { s.cur with ea := some v } := rfl
@[simp] theorem State.noteEa_tia : (s.noteEa v).tia = s.tia := rfl
@[simp] theorem State.noteEa_riot : (s.noteEa v).riot = s.riot := rfl
@[simp] theorem State.noteEa_mem : (s.noteEa v).mem = s.mem := rfl
@[simp] theorem State.noteEa_cart : (s.noteEa v).cart = s.cart := rfl
@[simp] theorem State.noteEa_draws : (s.noteEa v).draws = s.draws := rfl
@[simp] theorem State.noteEa_stepCycles : (s.noteEa v).stepCycles = s.stepCycles := rfl
@[simp] theorem State.noteEa_signals : (s.noteEa v).signals = s.signals := rfl
end noteEa

section noteOperand
variable (s : State) (v : Byte)
@[simp] theorem State.noteOperand_a : (s.noteOperand v).a = s.a := rfl
@[simp] theorem State.noteOperand_x : (s.noteOperand v).x = s.x := rfl
@[simp] theorem State.noteOperand_y : (s.noteOperand v).y = s.y := rfl
@[simp] theorem State.noteOperand_sp : (s.noteOperand v).sp = s.sp := rfl
@[simp] theorem State.noteOperand_pc : (s.noteOperand v).pc = s.pc := rfl
@[simp] theorem State.noteOperand_p : (s.noteOperand v).p = s.p := rfl
@[simp] theorem State.noteOperand_irqLine : (s.noteOperand v).irqLine = s.irqLine := rfl
@[simp] theorem State.noteOperand_nmiLine : (s.noteOperand v).nmiLine = s.nmiLine := rfl
@[simp] theorem State.noteOperand_nmiPending : (s.noteOperand v).nmiPending = s.nmiPending := rfl
@[simp] theorem State.noteOperand_halted : (s.noteOperand v).halted = s.halted := rfl
@[simp] theorem State.noteOperand_fault : (s.noteOperand v).fault = s.fault := rfl
@[simp] theorem State.noteOperand_reports : (s.noteOperand v).reports = s.reports := rfl
@[simp] theorem State.noteOperand_cycleCount : (s.noteOperand v).cycleCount = s.cycleCount := rfl
@[simp] theorem State.noteOperand_last : (s.noteOperand v).last = s.last := rfl
@[simp] theorem State.noteOperand_cur : (s.noteOperand v).cur = { s.cur with operand := some v } := rfl
@[simp] theorem State.noteOperand_tia : (s.noteOperand v).tia = s.tia := rfl
@[simp] theorem State.noteOperand_riot : (s.noteOperand v).riot = s.riot := rfl
@[simp] theorem State.noteOperand_mem : (s.noteOperand v).mem = s.mem := rfl
@[simp] theorem State.noteOperand_cart : (s.noteOperand v).cart = s.cart := rfl
@[simp] theorem State.noteOperand_draws : (s.noteOperand v).draws = s.draws := rfl
@[simp] theorem State.noteOperand_stepCycles : (s.noteOperand v).stepCycles = s.stepCycles := rfl
@[simp] theorem State.noteOperand_signals : (s.noteOperand v).signals = s.signals := rfl
end noteOperand

section notePageCrossed
variable (s : State) (v : Bool)
@[simp] theorem State.notePageCrossed_a : (s.notePageCrossed v).a = s.a := rfl
@[simp] theorem State.notePageCrossed_x : (s.notePageCrossed v).x = s.x := rfl
@[simp] theorem State.notePageCrossed_y : (s.notePageCrossed v).y = s.y := rfl
@[simp] theorem State.notePageCrossed_sp : (s.notePageCrossed v).sp = s.sp := rfl
@[simp] theorem State.notePageCrossed_pc : (s.notePageCrossed v).pc = s.pc := rfl
@[simp] theorem State.notePageCrossed_p : (s.notePageCrossed v).p = s.p := rfl
@[simp] theorem State.notePageCrossed_irqLine : (s.notePageCrossed v).irqLine = s.irqLine := rfl
@[simp] theorem State.notePageCrossed_nmiLine : (s.notePageCrossed v).nmiLine = s.nmiLine := rfl
@[simp] theorem State.notePageCrossed_nmiPending : (s.notePageCrossed v).nmiPending = s.nmiPending := rfl
@[simp] theorem State.notePageCrossed_halted : (s.notePageCrossed v).halted = s.halted := rfl
@[simp] theorem State.notePageCrossed_fault : (s.notePageCrossed v).fault = s.fault := rfl
@[simp] theorem State.notePageCrossed_reports : (s.notePageCrossed v).reports = s.reports := rfl
@[simp] theorem State.notePageCrossed_cycleCount : (s.notePageCrossed v).cycleCount = s.cycleCount := rfl
@[simp] theorem State.notePageCrossed_last : (s.notePageCrossed v).last = s.last := rfl
@[simp] theorem State.notePageCrossed_cur : (s.notePageCrossed v).cur = { s.cur with pageCrossed := v } := rfl
@[simp] theorem State.notePageCrossed_tia : (s.notePageCrossed v).tia = s.tia := rfl
@[simp] theorem State.notePageCrossed_riot : (s.notePageCrossed v).riot = s.riot := rfl
@[simp] theorem State.notePageCrossed_mem : (s.notePageCrossed v).mem = s.mem := rfl
@[simp] theorem State.notePageCrossed_cart : (s.notePageCrossed v).cart = s.cart := rfl
@[simp] theorem State.notePageCrossed_draws : (s.notePageCrossed v).draws = s.draws := rfl
@[simp] theorem State.notePageCrossed_stepCycles : (s.notePageCrossed v).stepCycles = s.stepCycles := rfl
@[simp] theorem State.notePageCrossed_signals : (s.notePageCrossed v).signals = s.signals := rfl
end notePageCrossed

section noteBug
variable (s : State) (v : Bug)
@[simp] theorem State.noteBug_a : (s.noteBug v).a = s.a := rfl
@[simp] theorem State.noteBug_x : (s.noteBug v).x = s.x := rfl
@[simp] theorem State.noteBug_y : (s.noteBug v).y = s.y := rfl
@[simp] theorem State.noteBug_sp : (s.noteBug v).sp = s.sp := rfl
@[simp] theorem State.noteBug_pc : (s.noteBug v).pc = s.pc := rfl
@[simp] theorem State.noteBug_p : (s.noteBug v).p = s.p := rfl
@[simp] theorem State.noteBug_irqLine : (s.noteBug v).irqLine = s.irqLine := rfl
@[simp] theorem State.noteBug_nmiLine : (s.noteBug v).nmiLine = s.nmiLine := rfl
@[simp] theorem State.noteBug_nmiPending : (s.noteBug v).nmiPending = s.nmiPending := rfl
@[simp] theorem State.noteBug_halted : (s.noteBug v).halted = s.halted := rfl
@[simp] theorem State.noteBug_fault : (s.noteBug v).fault = s.fault := rfl
@[simp] theorem State.noteBug_reports : (s.noteBug v).reports = s.reports := rfl
@[simp] theorem State.noteBug_cycleCount : (s.noteBug v).cycleCount = s.cycleCount := rfl
@[simp] theorem State.noteBug_last : (s.noteBug v).last = s.last := rfl
@[simp] theorem State.noteBug_cur : (s.noteBug v).cur = { s.cur with bug := v } := rfl
@[simp] theorem State.noteBug_tia : (s.noteBug v).tia = s.tia := rfl
@[simp] theorem State.noteBug_riot : (s.noteBug v).riot = s.riot := rfl
@[simp] theorem State.noteBug_mem : (s.noteBug v).mem = s.mem := rfl
@[simp] theorem State.noteBug_cart : (s.noteBug v).cart = s.cart := rfl
@[simp] theorem State.noteBug_draws : (s.noteBug v).draws = s.draws := rfl
@[simp] theorem State.noteBug_stepCycles : (s.noteBug v).stepCycles = s.stepCycles := rfl
@[simp] theorem State.noteBug_signals : (s.noteBug v).signals = s.signals := rfl
end noteBug

section noteCycle
variable (s : State)
@[simp] theorem State.noteCycle_a : s.noteCycle.a = s.a := rfl
@[simp] theorem State.noteCycle_x : s.noteCycle.x = s.x := rfl
@[simp] theorem State.noteCycle_y : s.noteCycle.y = s.y := rfl
@[simp] theorem State.noteCycle_sp : s.noteCycle.sp = s.sp := rfl
@[simp] theorem State.noteCycle_pc : s.noteCycle.pc = s.pc := rfl
@[simp] theorem State.noteCycle_p : s.noteCycle.p = s.p := rfl
@[simp] theorem State.noteCycle_irqLine : s.noteCycle.irqLine = s.irqLine := rfl
@[simp] theorem State.noteCycle_nmiLine : s.noteCycle.nmiLine = s.nmiLine := rfl
@[simp] theorem State.noteCycle_nmiPending : s.noteCycle.nmiPending = s.nmiPending := rfl
@[simp] theorem State.noteCycle_halted : s.noteCycle.halted = s.halted := rfl
@[simp] theorem State.noteCycle_fault : s.noteCycle.fault = s.fault := rfl
@[simp] theorem State.noteCycle_reports : s.noteCycle.reports = s.reports := rfl
@[simp] theorem State.noteCycle_cycleCount : s.noteCycle.cycleCount = s.cycleCount := rfl
@[simp] theorem State.noteCycle_last : s.noteCycle.last = s.last := rfl
@[simp] theorem State.noteCycle_cur : s.noteCycle.cur = { s.cur with cycles := s.cur.cycles + 1 } := rfl
@[simp] theorem State.noteCycle_tia : s.noteCycle.tia = s.tia := rfl
@[simp] theorem State.noteCycle_riot : s.noteCycle.riot = s.riot := rfl
@[simp] theorem State.noteCycle_mem : s.noteCycle.mem = s.mem := rfl
@[simp] theorem State.noteCycle_cart : s.noteCycle.cart = s.cart := rfl
@[simp] theorem State.noteCycle_draws : s.noteCycle.draws = s.draws := rfl
@[simp] theorem State.noteCycle_stepCycles : s.noteCycle.stepCycles = s.stepCycles := rfl
@[simp] theorem State.noteCycle_signals : s.noteCycle.signals = s.signals := rfl
end noteCycle

section clocked
variable (s : State) (t : Tia) (sig : Signal)
@[simp] theorem State.clocked_a : (s.clocked t sig).a = s.a := rfl
@[simp] theorem State.clocked_x : (s.clocked t sig).x = s.x := rfl
@[simp] theorem State.clocked_y : (s.clocked t sig).y = s.y := rfl
@[simp] theorem State.clocked_sp : (s.clocked t sig).sp = s.sp := rfl
@[simp] theorem State.clocked_pc : (s.clocked t sig).pc = s.pc := rfl
@[simp] theorem State.clocked_p : (s.clocked t sig).p = s.p := rfl
@[simp] theorem State.clocked_irqLine : (s.clocked t sig).irqLine = s.irqLine := rfl
@[simp] theorem State.clocked_nmiLine : (s.clocked t sig).nmiLine = s.nmiLine := rfl
@[simp] theorem State.clocked_nmiPending : (s.clocked t sig).nmiPending = s.nmiPending := rfl
@[simp] theorem State.clocked_halted : (s.clocked t sig).halted = s.halted := rfl
@[simp] theorem State.clocked_fault : (s.clocked t sig).fault = s.fault := rfl
@[simp] theorem State.clocked_reports : (s.clocked t sig).reports = s.reports := rfl
@[simp] theorem State.clocked_cycleCount : (s.clocked t sig).cycleCount = s.cycleCount := rfl
@[simp] theorem State.clocked_last : (s.clocked t sig).last = s.last := rfl
@[simp] theorem State.clocked_cur : (s.clocked t sig).cur = s.cur := rfl
@[simp] theorem State.clocked_tia : (s.clocked t sig).tia = t := rfl
@[simp] theorem State.clocked_riot : (s.clocked t sig).riot = s.riot := rfl
@[simp] theorem State.clocked_mem : (s.clocked t sig).mem = s.mem := rfl
@[simp] theorem State.clocked_cart : (s.clocked t sig).cart = s.cart := rfl
@[simp] theorem State.clocked_draws : (s.clocked t sig).draws = s.draws + 1 := rfl
@[simp] theorem State.clocked_stepCycles : (s.clocked t sig).stepCycles = s.stepCycles := rfl
@[simp] theorem State.clocked_signals : (s.clocked t sig).signals = sig :: s.signals := rfl
end clocked

section countCycle
variable (s : State)
@[simp] theorem countCycle_a : (countCycle s).a = s.a := rfl
@[simp] theorem countCycle_x : (countCycle s).x = s.x := rfl
@[simp] theorem countCycle_y : (countCycle s).y = s.y := rfl
@[simp] theorem countCycle_sp : (countCycle s).sp = s.sp := rfl
@[simp] theorem countCycle_pc : (countCycle s).pc = s.pc := rfl
@[simp] theorem countCycle_p : (countCycle s).p = s.p := rfl
@[simp] theorem countCycle_irqLine : (countCycle s).irqLine = s.irqLine := rfl
@[simp] theorem countCycle_nmiLine : (countCycle s).nmiLine = s.nmiLine := rfl
@[simp] theorem countCycle_nmiPending : (countCycle s).nmiPending = s.nmiPending := rfl
@[simp] theorem countCycle_halted : (countCycle s).halted = s.halted := rfl
@[simp] theorem countCycle_fault : (countCycle s).fault = s.fault := rfl
@[simp] theorem countCycle_reports : (countCycle s).reports = s.reports := rfl
@[simp] theorem countCycle_cycleCount : (countCycle s).cycleCount = s.cycleCount + 1 := rfl
@[simp] theorem countCycle_last : (countCycle s).last = s.last := rfl
@[simp] theorem countCycle_cur : (countCycle s).cur = s.cur := rfl
@[simp] theorem countCycle_tia : (countCycle s).tia = s.tia := rfl
@[simp] theorem countCycle_riot : (countCycle s).riot = s.riot := rfl
@[simp] theorem countCycle_mem : (countCycle s).mem = s.mem := rfl
@[simp] theorem countCycle_cart : (countCycle s).cart = s.cart := rfl
@[simp] theorem countCycle_draws : (countCycle s).draws = s.draws := rfl
@[simp] theorem countCycle_stepCycles : (countCycle s).stepCycles = s.stepCycles + 1 := rfl
@[simp] theorem countCycle_signals : (countCycle s).signals = s.signals := rfl
end countCycle

section tickCart
variable (s : State)
@[simp] theorem tickCart_a : (tickCart s).a = s.a := rfl
@[simp] theorem tickCart_x : (tickCart s).x = s.x := rfl
@[simp] theorem tickCart_y : (tickCart s).y = s.y := rfl
@[simp] theorem tickCart_sp : (tickCart s).sp = s.sp := rfl
@[simp] theorem tickCart_pc : (tickCart s).pc = s.pc := rfl
@[simp] theorem tickCart_p : (tickCart s).p = s.p := rfl
@[simp] theorem tickCart_irqLine : (tickCart s).irqLine = s.irqLine := rfl
@[simp] theorem tickCart_nmiLine : (tickCart s).nmiLine = s.nmiLine := rfl
@[simp] theorem tickCart_nmiPending : (tickCart s).nmiPending = s.nmiPending := rfl
@[simp] theorem tickCart_halted : (tickCart s).halted = s.halted := rfl
@[simp] theorem tickCart_fault : (tickCart s).fault = s.fault := rfl
@[simp] theorem tickCart_reports : (tickCart s).reports = s.reports := rfl
@[simp] theorem tickCart_cycleCount : (tickCart s).cycleCount = s.cycleCount := rfl
@[simp] theorem tickCart_last : (tickCart s).last = s.last := rfl
@[simp] theorem tickCart_cur : (tickCart s).cur = s.cur := rfl
@[simp] theorem tickCart_tia : (tickCart s).tia = s.tia := rfl
@[simp] theorem tickCart_riot : (tickCart s).riot = s.riot := rfl
@[simp] theorem tickCart_mem : (tickCart s).mem = s.mem := rfl
@[simp] theorem tickCart_cart : (tickCart s).cart = s.cart.afterStep := rfl
@[simp] theorem tickCart_draws : (tickCart s).draws = s.draws := rfl
@[simp] theorem tickCart_stepCycles : (tickCart s).stepCycles = s.stepCycles := rfl
@[simp] theorem tickCart_signals : (tickCart s).signals = s.signals := rfl
end tickCart

section tickRiot
variable (s : State)
@[simp] theorem tickRiot_a : (tickRiot s).a = s.a := rfl
@[simp] theorem tickRiot_x : (tickRiot s).x = s.x := rfl
@[simp] theorem tickRiot_y : (tickRiot s).y = s.y := rfl
@[simp] theorem tickRiot_sp : (tickRiot s).sp = s.sp := rfl
@[simp] theorem tickRiot_pc : (tickRiot s).pc = s.pc := rfl
@[simp] theorem tickRiot_p : (tickRiot s).p = s.p := rfl
@[simp] theorem tickRiot_irqLine : (tickRiot s).irqLine = s.irqLine := rfl
@[simp] theorem tickRiot_nmiLine : (tickRiot s).nmiLine = s.nmiLine := rfl
@[simp] theorem tickRiot_nmiPending : (tickRiot s).nmiPending = s.nmiPending := rfl
@[simp] theorem tickRiot_halted : (tickRiot s).halted = s.halted := rfl
@[simp] theorem tickRiot_fault : (tickRiot s).fault = s.fault := rfl
@[simp] theorem tickRiot_reports : (tickRiot s).reports = s.reports := rfl
@[simp] theorem tickRiot_cycleCount : (tickRiot s).cycleCount = s.cycleCount := rfl
@[simp] theorem tickRiot_last : (tickRiot s).last = s.last := rfl
@[simp] theorem tickRiot_cur : (tickRiot s).cur = s.cur := rfl
@[simp] theorem tickRiot_tia : (tickRiot s).tia = s.tia := rfl
@[simp] theorem tickRiot_riot : (tickRiot s).riot = riotStep ((Config.pinA s.draws).getLsbD 7) s.riot := rfl
@[simp] theorem tickRiot_mem : (tickRiot s).mem = s.mem := rfl
@[simp] theorem tickRiot_cart : (tickRiot s).cart = s.cart := rfl
@[simp] theorem tickRiot_draws : (tickRiot s).draws = s.draws + 1 := rfl
@[simp] theorem tickRiot_stepCycles : (tickRiot s).stepCycles = s.stepCycles := rfl
@[simp] theorem tickRiot_signals : (tickRiot s).signals = s.signals := rfl
end tickRiot

section startStep
variable (s : State)
@[simp] theorem startStep_a : (startStep s).a = s.a := rfl
@[simp] theorem startStep_x : (startStep s).x = s.x := rfl
@[simp] theorem startStep_y : (startStep s).y = s.y := rfl
@[simp] theorem startStep_sp : (startStep s).sp = s.sp := rfl
@[simp] theorem startStep_pc : (startStep s).pc = s.pc := rfl
@[simp] theorem startStep_p : (startStep s).p = s.p := rfl
@[simp] theorem startStep_irqLine : (startStep s).irqLine = s.irqLine := rfl
@[simp] theorem startStep_nmiLine : (startStep s).nmiLine = s.nmiLine := rfl
@[simp] theorem startStep_nmiPending : (startStep s).nmiPending = s.nmiPending := rfl
@[simp] theorem startStep_halted : (startStep s).halted = s.halted := rfl
@[simp] theorem startStep_fault : (startStep s).fault = s.fault := rfl
@[simp] theorem startStep_reports : (startStep s).reports = s.reports := rfl
@[simp] theorem startStep_cycleCount : (startStep s).cycleCount = s.cycleCount := rfl
@[simp] theorem startStep_last : (startStep s).last = s.last := rfl
@[simp] theorem startStep_cur : (startStep s).cur = s.cur := rfl
@[simp] theorem startStep_tia : (startStep s).tia = s.tia := rfl
@[simp] theorem startStep_riot : (startStep s).riot = s.riot := rfl
@[simp] theorem startStep_mem : (startStep s).mem = s.mem := rfl
@[simp] theorem startStep_cart : (startStep s).cart = s.cart := rfl
@[simp] theorem startStep_draws : (startStep s).draws = s.draws := rfl
@[simp] theorem startStep_stepCycles : (startStep s).stepCycles = 0 := rfl
@[simp] theorem startStep_signals : (startStep s).signals = [] := rfl
end startStep

section startRecord
variable (s : State)
@[simp] theorem startRecord_a : (startRecord s).a = s.a := rfl
@[simp] theorem startRecord_x : (startRecord s).x = s.x := rfl
@[simp] theorem startRecord_y : (startRecord s).y = s.y := rfl
@[simp] theorem startRecord_sp : (startRecord s).sp = s.sp := rfl
@[simp] theorem startRecord_pc : (startRecord s).pc = s.pc := rfl
@[simp] theorem startRecord_p : (startRecord s).p = s.p := rfl
@[simp] theorem startRecord_irqLine : (startRecord s).irqLine = s.irqLine := rfl
@[simp] theorem startRecord_nmiLine : (startRecord s).nmiLine = s.nmiLine := rfl
@[simp] theorem startRecord_nmiPending : (startRecord s).nmiPending = s.nmiPending := rfl
@[simp] theorem startRecord_halted : (startRecord s).halted = s.halted := rfl
@[simp] theorem startRecord_fault : (startRecord s).fault = s.fault := rfl
@[simp] theorem startRecord_reports : (startRecord s).reports = s.reports := rfl
@[simp] theorem startRecord_cycleCount : (startRecord s).cycleCount = s.cycleCount := rfl
@[simp] theorem startRecord_last : (startRecord s).last = s.last := rfl
@[simp] theorem startRecord_cur : (startRecord s).cur = { LastResult.blank with address := s.pc } := rfl
@[simp] theorem startRecord_tia : (startRecord s).tia = s.tia := rfl
@[simp] theorem startRecord_riot : (startRecord s).riot = s.riot := rfl
@[simp] theorem startRecord_mem : (startRecord s).mem = s.mem := rfl
@[simp] theorem startRecord_cart : (startRecord s).cart = s.cart := rfl
@[simp] theorem startRecord_draws : (startRecord s).draws = s.draws := rfl
@[simp] theorem startRecord_stepCycles : (startRecord s).stepCycles = s.stepCycles := rfl
@[simp] theorem startRecord_signals : (startRecord s).signals = s.signals := rfl
end startRecord

section closeRecord
variable (s : State)
@[simp] theorem closeRecord_a : (closeRecord s).a = s.a := rfl
@[simp] theorem closeRecord_x : (closeRecord s).x = s.x := rfl
@[simp] theorem closeRecord_y : (closeRecord s).y = s.y := rfl
@[simp] theorem closeRecord_sp : (closeRecord s).sp = s.sp := rfl
@[simp] theorem closeRecord_pc : (closeRecord s).pc = s.pc := rfl
@[simp] theorem closeRecord_p : (closeRecord s).p = s.p := rfl
@[simp] theorem closeRecord_irqLine : (closeRecord s).irqLine = s.irqLine := rfl
@[simp] theorem closeRecord_nmiLine : (closeRecord s).nmiLine = s.nmiLine := rfl
@[simp] theorem closeRecord_nmiPending : (closeRecord s).nmiPending = s.nmiPending := rfl
@[simp] theorem closeRecord_halted : (closeRecord s).halted = s.halted := rfl
@[simp] theorem closeRecord_fault : (closeRecord s).fault = s.fault := rfl
@[simp] theorem closeRecord_reports : (closeRecord s).reports = s.reports := rfl
@[simp] theorem closeRecord_cycleCount : (closeRecord s).cycleCount = s.cycleCount := rfl
@[simp] theorem closeRecord_last : (closeRecord s).last = { s.cur with bug := finalBug s.cur, final := true } := rfl
@[simp] theorem closeRecord_cur : (closeRecord s).cur = s.cur := rfl
@[simp] theorem closeRecord_tia : (closeRecord s).tia = s.tia := rfl
@[simp] theorem closeRecord_riot : (closeRecord s).riot = s.riot := rfl
@[simp] theorem closeRecord_mem : (closeRecord s).mem = s.mem := rfl
@[simp] theorem closeRecord_cart : (closeRecord s).cart = s.cart := rfl
@[simp] theorem closeRecord_draws : (closeRecord s).draws = s.draws := rfl
@[simp] theorem closeRecord_stepCycles : (closeRecord s).stepCycles = s.stepCycles := rfl
@[simp] theorem closeRecord_signals : (closeRecord s).signals = s.signals := rfl
end closeRecord

section afterRead
variable (s : State) (addr : Word)
@[simp] theorem afterRead_a : (afterRead addr s).a = s.a := rfl
@[simp] theorem afterRead_x : (afterRead addr s).x = s.x := rfl
@[simp] theorem afterRead_y : (afterRead addr s).y = s.y := rfl
@[simp] theorem afterRead_sp : (afterRead addr s).sp = s.sp := rfl
@[simp] theorem afterRead_pc : (afterRead addr s).pc = s.pc := rfl
@[simp] theorem afterRead_p : (afterRead addr s).p = s.p := rfl
@[simp] theorem afterRead_irqLine : (afterRead addr s).irqLine = s.irqLine := rfl
@[simp] theorem afterRead_nmiLine : (afterRead addr s).nmiLine = s.nmiLine := rfl
@[simp] theorem afterRead_nmiPending : (afterRead addr s).nmiPending = s.nmiPending := rfl
@[simp] theorem afterRead_halted : (afterRead addr s).halted = s.halted := rfl
@[simp] theorem afterRead_fault : (afterRead addr s).fault = s.fault := rfl
@[simp] theorem afterRead_reports : (afterRead addr s).reports = s.reports := rfl
@[simp] theorem afterRead_cycleCount : (afterRead addr s).cycleCount = s.cycleCount := rfl
@[simp] theorem afterRead_last : (afterRead addr s).last = s.last := rfl
@[simp] theorem afterRead_cur : (afterRead addr s).cur = s.cur := rfl
@[simp] theorem afterRead_tia : (afterRead addr s).tia = s.tia := rfl
@[simp] theorem afterRead_riot : (afterRead addr s).riot = riotAfterRead (busAddr addr) s := rfl
@[simp] theorem afterRead_mem : (afterRead addr s).mem = s.mem := rfl
@[simp] theorem afterRead_cart : (afterRead addr s).cart = cartAfterRead (busAddr addr) s := rfl
@[simp] theorem afterRead_draws : (afterRead addr s).draws = drawsAfterRead (busAddr addr) s := rfl
@[simp] theorem afterRead_stepCycles : (afterRead addr s).stepCycles = s.stepCycles := rfl
@[simp] theorem afterRead_signals : (afterRead addr s).signals = s.signals := rfl
end afterRead

section afterWrite
variable (s : State) (addr : Word) (v : Byte)
@[simp] theorem afterWrite_a : (afterWrite addr v s).a = s.a := rfl
@[simp] theorem afterWrite_x : (afterWrite addr v s).x = s.x := rfl
@[simp] theorem afterWrite_y : (afterWrite addr v s).y = s.y := rfl
@[simp] theorem afterWrite_sp : (afterWrite addr v s).sp = s.sp := rfl
@[simp] theorem afterWrite_pc : (afterWrite addr v s).pc = s.pc := rfl
@[simp] theorem afterWrite_p : (afterWrite addr v s).p = s.p := rfl
@[simp] theorem afterWrite_irqLine : (afterWrite addr v s).irqLine = s.irqLine := rfl
@[simp] theorem afterWrite_nmiLine : (afterWrite addr v s).nmiLine = s.nmiLine := rfl
@[simp] theorem afterWrite_nmiPending : (afterWrite addr v s).nmiPending = s.nmiPending := rfl
@[simp] theorem afterWrite_halted : (afterWrite addr v s).halted = s.halted := rfl
@[simp] theorem afterWrite_fault : (afterWrite addr v s).fault = s.fault := rfl
@[simp] theorem afterWrite_reports : (afterWrite addr v s).reports = s.reports := rfl
@[simp] theorem afterWrite_cycleCount : (afterWrite addr v s).cycleCount = s.cycleCount := rfl
@[simp] theorem afterWrite_last : (afterWrite addr v s).last = s.last := rfl
@[simp] theorem afterWrite_cur : (afterWrite addr v s).cur = s.cur := rfl
@[simp] theorem afterWrite_tia : (afterWrite addr v s).tia = tiaAfterWrite (busAddr addr) v s := rfl
@[simp] theorem afterWrite_riot : (afterWrite addr v s).riot = riotAfterWrite (busAddr addr) v s := rfl
@[simp] theorem afterWrite_mem : (afterWrite addr v s).mem = memAfterWrite (busAddr addr) v s := rfl
@[simp] theorem afterWrite_cart : (afterWrite addr v s).cart = cartAfterWrite (busAddr addr) v s := rfl
@[simp] theorem afterWrite_draws : (afterWrite addr v s).draws = s.draws := rfl
@[simp] theorem afterWrite_stepCycles : (afterWrite addr v s).stepCycles = s.stepCycles := rfl
@[simp] theorem afterWrite_signals : (afterWrite addr v s).signals = s.signals := rfl
end afterWrite

end Sys2Proof.Machine
end

