-- ==== Sys2Proof/Laws/Tia.lean ====
section
/-! SUPPORT. The TIA: what each stage of a step keeps, and that no step fails while the tags of the delay queue
are distinct. -/

namespace Sys2Proof.Machine

/-! ### The delay queue -/

/-- There are ten tags (10_state.md R61). -/
theorem tags_bounded {q : List Tag} (h : q.Nodup) : q.length ≤ 10 := by
  have hsub : q ⊆ [.pf, .res .p0, .res .p1, .res .m0, .res .m1, .res .bl, .hsyncOff, .cburstOff, .hblankOff, .newline] := by
    intro tag _
    rcases tag with _ | (_ | _ | _ | _ | _) | _ | _ | _ | _ <;> simp
  simpa using (h.subperm hsub).length_le

/-- With distinct tags a schedule finds a slot (10_state.md R60). -/
theorem schedule_ok {t : Tia} (n : Nat) (e : Event) (h : t.tags.Nodup) :
    schedule n e t = .ok { t with dq := (t.dq.filter fun sl => sl.event.tag ≠ e.tag) ++ [⟨n, e⟩] } := by
  have hlen := tags_bounded h
  rw [Tia.tags, List.length_map] at hlen
  have := List.length_filter_le (fun sl : Slot => decide (sl.event.tag ≠ e.tag)) t.dq
  unfold schedule
  rw [if_pos (by unfold Config.dqCapacity; omega)]

/-- A schedule fails with the TIA it was called on. -/
theorem schedule_error {n : Nat} {ev : Event} {t : Tia} {e : QueueFull} (h : schedule n ev t = .error e) :
    ∃ n ev, ev.tag = e.tag ∧ schedule n ev e.tia = .error ⟨e.tag, e.tia⟩ := by
  have h' := h
  simp only [schedule] at h'
  split at h'
  · cases h'
  · cases h'
    exact ⟨n, ev, rfl, h⟩

/-- A schedule keeps the tags distinct. -/
theorem schedule_tags {t u : Tia} {n : Nat} {e : Event} (h : t.tags.Nodup) (hu : schedule n e t = .ok u) :
    u.tags.Nodup := by
  rw [schedule_ok n e h] at hu
  cases hu
  simp only [Tia.tags, List.map_append, List.map_cons, List.map_nil]
  refine List.nodup_append.2 ⟨h.sublist (List.filter_sublist.map _), List.nodup_singleton _, ?_⟩
  intro a ha b hb
  simp only [List.mem_map, List.mem_filter, decide_eq_true_eq] at ha
  obtain ⟨sl, ⟨-, hne⟩, rfl⟩ := ha
  rw [List.mem_singleton.1 hb]
  exact hne

/-- A schedule changes the queue and nothing else. -/
theorem schedule_kept {t u : Tia} {n : Nat} {e : Event} (hu : schedule n e t = .ok u) :
    u = { t with dq := (t.dq.filter fun sl => sl.event.tag ≠ e.tag) ++ [⟨n, e⟩] } := by
  simp only [schedule] at hu
  split at hu
  · exact (Except.ok.inj hu).symm
  · cases hu

/-- Scheduling within PF_DELAY keeps the ranges. -/
theorem schedule_Ok {t u : Tia} {n : Nat} {e : Event} (h : t.Ok) (hn : 1 ≤ n ∧ n ≤ Config.pfDelay)
    (hu : schedule n e t = .ok u) : u.Ok := by
  rw [schedule_kept hu]
  refine ⟨fun sl hsl => ?_, h.2⟩
  simp only [List.mem_append, List.mem_filter, List.mem_singleton] at hsl
  rcases hsl with ⟨hsl, -⟩ | rfl
  · exact h.1 sl hsl
  · exact hn

/-! ### What the stages keep -/

/-- Two TIA states with the same clock, RDY, inbox and write registers. -/
structure SameClock (t u : Tia) : Prop where
  pclk      : u.pclk = t.pclk
  hsync     : u.hsync = t.hsync
  rdy       : u.rdy = t.rdy
  inbox     : u.inbox = t.inbox
  registers : u.registers = t.registers

theorem SameClock.trans {t u v : Tia} (h : SameClock t u) (k : SameClock u v) : SameClock t v :=
  ⟨k.pclk.trans h.pclk, k.hsync.trans h.hsync, k.rdy.trans h.rdy, k.inbox.trans h.inbox,
    k.registers.trans h.registers⟩

theorem Event.apply_sameClock (e : Event) (t : Tia) : SameClock t (e.apply t) := by
  cases e <;> exact ⟨rfl, rfl, rfl, rfl, rfl⟩

@[simp] theorem Event.apply_dq (e : Event) (t : Tia) : (e.apply t).dq = t.dq := by cases e <;> rfl

theorem applyAll_sameClock (q : List Slot) (t : Tia) :
    SameClock t (q.foldl (fun t sl => sl.event.apply t) t) ∧ (q.foldl (fun t sl => sl.event.apply t) t).dq = t.dq := by
  induction q generalizing t with
  | nil => exact ⟨⟨rfl, rfl, rfl, rfl, rfl⟩, rfl⟩
  | cons sl q ih =>
    obtain ⟨h, hd⟩ := ih (sl.event.apply t)
    exact ⟨(Event.apply_sameClock sl.event t).trans h, hd.trans (Event.apply_dq _ _)⟩

theorem queueStage_sameClock (t : Tia) : SameClock t (queueStage t) := by
  have h := (applyAll_sameClock ((countedDown t).filter (·.remaining = 0))
    { t with dq := (countedDown t).filter (·.remaining ≠ 0), newline := false }).1
  exact ⟨h.pclk, h.hsync, h.rdy, h.inbox, h.registers⟩

@[simp] theorem queueStage_dq (t : Tia) : (queueStage t).dq = (countedDown t).filter (·.remaining ≠ 0) :=
  (applyAll_sameClock _ _).2

theorem queueStage_tags {t : Tia} (h : t.tags.Nodup) : (queueStage t).tags.Nodup := by
  unfold Tia.tags
  rw [queueStage_dq]
  refine List.Nodup.sublist (List.filter_sublist.map _) ?_
  simpa [countedDown, Tia.tags, List.map_map, Function.comp_def, Slot.countDown] using h

/-- Equal write registers and waiting slots in range are in range. -/
theorem Tia.Ok.ofRegisters {t u : Tia} (h : t.Ok) (hr : u.registers = t.registers)
    (hq : ∀ sl ∈ u.dq, 1 ≤ sl.remaining ∧ sl.remaining ≤ Config.pfDelay) : u.Ok := by
  simp only [Tia.registers, Tia.mk.injEq, true_and] at hr
  obtain ⟨-, -, -, -, -, -, -, -, -, -, h0, h0', -, -, hc, hc', -⟩ := hr
  refine ⟨hq, ?_, ?_⟩
  · rw [h0, h0']; exact h.2.1
  · rw [hc, hc']; exact h.2.2

theorem queueStage_Ok {t : Tia} (h : t.Ok) : (queueStage t).Ok := by
  refine h.ofRegisters (queueStage_sameClock t).registers fun sl hsl => ?_
  rw [queueStage_dq] at hsl
  simp only [countedDown, List.mem_filter, List.mem_map, decide_eq_true_eq] at hsl
  obtain ⟨⟨sl', hsl', rfl⟩, hne⟩ := hsl
  have := h.1 sl' hsl'
  simp only [Slot.countDown] at hne ⊢
  omega

/-- The decode of a new count never fails, and changes only HSYNC's signal and the queue. -/
theorem decodeHsync_ok {t : Tia} (h : t.tags.Nodup) :
    ∃ u, decodeHsync t = .ok u ∧ u.tags.Nodup ∧ SameClock t u ∧ (t.Ok → u.Ok) := by
  have sched : ∀ e, ∃ u, schedule Config.hsyncEventDelay e t = .ok u ∧ u.tags.Nodup ∧ SameClock t u ∧ (t.Ok → u.Ok) :=
    fun e => ⟨_, schedule_ok _ e h, schedule_tags h (schedule_ok _ e h), ⟨rfl, rfl, rfl, rfl, rfl⟩,
      fun hok => schedule_Ok hok (by decide) (schedule_ok _ e h)⟩
  have same : ∃ u, (Except.ok t : Except QueueFull Tia) = .ok u ∧ u.tags.Nodup ∧ SameClock t u ∧ (t.Ok → u.Ok) :=
    ⟨t, rfl, h, ⟨rfl, rfl, rfl, rfl, rfl⟩, id⟩
  unfold decodeHsync
  split
  · exact ⟨_, rfl, h, ⟨rfl, rfl, rfl, rfl, rfl⟩, id⟩
  · exact sched _
  · exact sched _
  · split
    · exact same
    · exact sched _
  · split
    · exact sched _
    · exact same
  · split
    · exact same
    · exact sched _
  · exact same

theorem armRipple_sameClock (t : Tia) : SameClock t (armRipple t) ∧ (armRipple t).dq = t.dq := by
  unfold armRipple
  split <;> exact ⟨⟨rfl, rfl, rfl, rfl, rfl⟩, rfl⟩

theorem rippleStep_sameClock (t : Tia) : SameClock t (rippleStep t) ∧ (rippleStep t).dq = t.dq := by
  obtain ⟨h, hq⟩ := armRipple_sameClock t
  simp only [rippleStep]
  split
  · exact ⟨h, hq⟩
  · exact ⟨⟨h.pclk, h.hsync, h.rdy, h.inbox, h.registers⟩, hq⟩

/-- The clock stage never fails; it moves cc on by one, modulo 228, and releases RDY at cc 227
(61_tia_clock.md R342, R344, R355). -/
theorem clockStage_ok {t : Tia} (h : t.tags.Nodup) :
    ∃ u, clockStage t = .ok u ∧ u.tags.Nodup ∧ u.inbox = t.inbox ∧ u.registers = t.registers ∧
      u.cc = (t.cc + 1) % 228 ∧ u.rdy = (t.rdy || decide (u.cc = 227)) ∧ (t.Ok → u.Ok) := by
  have hp := t.pclk.isLt
  have hh := t.hsync.isLt
  have release : ∀ v : Tia, (releaseRdy v).tags = v.tags ∧ (releaseRdy v).inbox = v.inbox ∧
      (releaseRdy v).registers = v.registers ∧ (releaseRdy v).cc = v.cc ∧
      (releaseRdy v).rdy = (v.rdy || decide ((releaseRdy v).cc = 227)) ∧ (v.Ok → (releaseRdy v).Ok) := by
    intro v
    by_cases h227 : v.cc = 227
    · have hcc : ({ v with rdy := true } : Tia).cc = 227 := h227
      have e : releaseRdy v = { v with rdy := true } := if_pos h227
      rw [e]
      exact ⟨rfl, rfl, rfl, rfl, by simp [hcc], id⟩
    · have e : releaseRdy v = v := if_neg h227
      rw [e]
      exact ⟨rfl, rfl, rfl, rfl, by simp [h227], id⟩
  unfold clockStage
  have hpclk : (advancePclk t).pclk.val = (t.pclk.val + 1) % 4 := by
    simp only [advancePclk, Fin.val_add]; rfl
  by_cases h2 : (advancePclk t).pclk = 2
  · have h2' : (t.pclk.val + 1) % 4 = 2 := by rw [← hpclk, h2]; rfl
    have ha : (advanceHsync (advancePclk t)).tags.Nodup ∧ (advanceHsync (advancePclk t)).inbox = t.inbox ∧
        (advanceHsync (advancePclk t)).registers = t.registers ∧ (advanceHsync (advancePclk t)).rdy = t.rdy ∧
        (advanceHsync (advancePclk t)).pclk = 2 ∧
        (advanceHsync (advancePclk t)).hsync.val = (t.hsync.val + 1) % 57 ∧
        (t.Ok → (advanceHsync (advancePclk t)).Ok) := by
      have hs : (advancePclk t).hsync = t.hsync := rfl
      unfold advanceHsync
      by_cases h56 : (advancePclk t).hsync = 56
      · rw [if_pos h56]
        have : t.hsync.val = 56 := by rw [← hs, h56]; rfl
        exact ⟨h, rfl, rfl, rfl, h2, by simp [this], id⟩
      · rw [if_neg h56]
        refine ⟨h, rfl, rfl, rfl, h2, ?_, id⟩
        have : (t.hsync + 1).val = (t.hsync.val + 1) % 57 := by simp only [Fin.val_add]; rfl
        exact this
    obtain ⟨hn, hi, hr, hrdy, hpc, hhs, hok⟩ := ha
    obtain ⟨u, hu, hun, huc, huok⟩ := decodeHsync_ok hn
    obtain ⟨hrc, hrq⟩ := rippleStep_sameClock u
    obtain ⟨r1, r2, r3, r4, r5, r6⟩ := release (rippleStep u)
    refine ⟨releaseRdy (rippleStep u), by simp [h2, phi2Rise, hu], ?_, ?_, ?_, ?_, ?_, ?_⟩
    · rw [r1]; unfold Tia.tags; rw [hrq]; exact hun
    · rw [r2, hrc.inbox, huc.inbox, hi]
    · rw [r3, hrc.registers, huc.registers, hr]
    · rw [r4]
      unfold Tia.cc
      rw [hrc.hsync, hrc.pclk, huc.hsync, huc.pclk, hpc, hhs]
      change 4 * ((t.hsync.val + 1) % 57) + (2 + 2) % 4 = _
      omega
    · rw [r5, hrc.rdy, huc.rdy, hrdy]
    · intro hk
      have := huok (hok hk)
      exact r6 (this.ofRegisters hrc.registers fun sl hsl => this.1 sl (hrq ▸ hsl))
  · obtain ⟨r1, r2, r3, r4, r5, r6⟩ := release (advancePclk t)
    refine ⟨releaseRdy (advancePclk t), by simp [h2], ?_, ?_, ?_, ?_, ?_, ?_⟩
    · rw [r1]; exact h
    · rw [r2]; rfl
    · rw [r3]; rfl
    · rw [r4]
      have : ¬ (t.pclk.val + 1) % 4 = 2 := fun e => h2 (Fin.ext (hpclk.trans e))
      unfold Tia.cc
      rw [hpclk]
      change 4 * t.hsync.val + _ = _
      omega
    · rw [r5]; rfl
    · intro hk; exact r6 hk

/-! ### Register writes -/

theorem resetPosition_delay (o : Obj) (hb : Bool) :
    1 ≤ (resetPosition o hb).1 ∧ (resetPosition o hb).1 ≤ Config.pfDelay := by
  cases o <;> cases hb <;> decide

/-- A register write never fails while tags are distinct, and leaves them distinct and the inbox as it is. -/
theorem tiaWrite_ok {t : Tia} (reg : BitVec 6) (v : Byte) (h : t.tags.Nodup) :
    ∃ u, tiaWrite reg v t = .ok u ∧ u.tags.Nodup ∧ u.inbox = t.inbox ∧ (t.Ok → u.Ok) := by
  have sched : ∀ (w : Tia) n e, w.tags = t.tags → w.inbox = t.inbox → (t.Ok → w.Ok) →
      (1 ≤ n ∧ n ≤ Config.pfDelay) →
      ∃ u, schedule n e w = .ok u ∧ u.tags.Nodup ∧ u.inbox = t.inbox ∧ (t.Ok → u.Ok) := by
    intro w n e hq hi hok hn
    have hw : w.tags.Nodup := hq ▸ h
    exact ⟨_, schedule_ok n e hw, schedule_tags hw (schedule_ok n e hw), hi,
      fun hk => schedule_Ok (hok hk) hn (schedule_ok n e hw)⟩
  unfold tiaWrite
  split
  all_goals first
    | exact ⟨_, rfl, h, rfl, id⟩
    | exact ⟨_, rfl, h, rfl, fun hk => ⟨hk.1, hk.2.1, rfl⟩⟩
    | exact sched _ _ _ rfl rfl id (resetPosition_delay _ _)
    | exact sched _ _ _ rfl rfl id (by decide)
    | exact sched _ _ _ rfl rfl (fun hk => ⟨hk.1, rfl, hk.2.2⟩) (by decide)

/-- A schedule changes at most the queue. -/
theorem leftBy_schedule (n : Nat) (e : Event) (t : Tia) : ∃ q, leftBy (schedule n e t) = { t with dq := q } := by
  simp only [schedule]
  split
  · exact ⟨_, rfl⟩
  · exact ⟨t.dq, rfl⟩

/-- What a write does to the write registers it does to them alone. -/
theorem tiaWritten_registers (t : Tia) (reg : BitVec 6) (v : Byte) :
    (tiaWritten reg v t).registers = (tiaWritten reg v t.registers).registers := by
  have sched : ∀ (w x : Tia) n m e f, w.registers = x.registers →
      (leftBy (schedule n e w)).registers = (leftBy (schedule m f x)).registers := by
    intro w x n m e f hr
    obtain ⟨q, e1⟩ := leftBy_schedule n e w
    obtain ⟨q', e2⟩ := leftBy_schedule m f x
    rw [e1, e2]
    exact hr
  unfold tiaWritten tiaWrite
  generalize reg.toNat = n
  split
  all_goals first
    | rfl
    | (refine sched _ _ _ _ _ _ ?_; rfl)

/-- What a write does to the write registers depends on the write registers alone. -/
theorem tiaWrite_registers {t u : Tia} (reg : BitVec 6) (v : Byte) (h : u.registers = t.registers) :
    (tiaWritten reg v u).registers = (tiaWritten reg v t).registers := by
  rw [tiaWritten_registers u, tiaWritten_registers t, h]

/-- The write registers after the service of the inbox. -/
def Tia.serviced (t : Tia) : Tia :=
  match t.inbox with
  | none => t.registers
  | some w => (tiaWritten w.1 w.2 t).registers

/-! ### One colour clock -/

theorem objectStage_kept (t : Tia) : SameClock t (objectStage t) ∧ (objectStage t).dq = t.dq :=
  ⟨⟨rfl, rfl, rfl, rfl, rfl⟩, rfl⟩

theorem latchStage_kept (b4 b5 : Bool) (t : Tia) : SameClock t (latchStage b4 b5 t) ∧ (latchStage b4 b5 t).dq = t.dq :=
  ⟨⟨rfl, rfl, rfl, rfl, rfl⟩, rfl⟩

/-- Stages 4 and 5 keep tags, ranges and whatever SameClock names. -/
theorem finish_kept (b4 b5 : Bool) (t : Tia) :
    SameClock t (latchStage b4 b5 (objectStage t)) ∧ (latchStage b4 b5 (objectStage t)).tags = t.tags ∧
      (t.Ok → (latchStage b4 b5 (objectStage t)).Ok) :=
  ⟨⟨rfl, rfl, rfl, rfl, rfl⟩, rfl, id⟩

/-- A step from what its stages give. -/
theorem tiaStep_eq {t u w : Tia} {service : Bool} (b4 b5 : Bool) (hu : clockStage (queueStage t) = .ok u)
    (hw : serviceStage service u = .ok w) :
    tiaStep service b4 b5 t = .ok (latchStage b4 b5 (objectStage w), signalOf (objectStage w)) := by
  simp only [tiaStep, clockAndService, hu, hw]

/-- What fails in a colour clock is a schedule, and it leaves the TIA as it was at the call (60_exceptions.md R303). -/
theorem tiaStep_error {service b4 b5 : Bool} {t : Tia} {e : QueueFull} (h : tiaStep service b4 b5 t = .error e) :
    ∃ n ev, ev.tag = e.tag ∧ schedule n ev e.tia = .error ⟨e.tag, e.tia⟩ := by
  have decode : ∀ t : Tia, decodeHsync t = .error e →
      ∃ n ev, ev.tag = e.tag ∧ schedule n ev e.tia = .error ⟨e.tag, e.tia⟩ := by
    intro t h
    unfold decodeHsync at h
    repeat' split at h
    all_goals first | cases h | exact schedule_error h
  have write : ∀ (reg : BitVec 6) (v : Byte) (t : Tia), tiaWrite reg v t = .error e →
      ∃ n ev, ev.tag = e.tag ∧ schedule n ev e.tia = .error ⟨e.tag, e.tia⟩ := by
    intro reg v t h
    unfold tiaWrite at h
    split at h
    all_goals first | cases h | exact schedule_error h
  unfold tiaStep clockAndService at h
  split at h
  · cases h
  · rename_i e' he
    cases h
    split at he
    · unfold serviceStage at he
      split at he
      · exact write _ _ _ he
      · cases he
    · rename_i e' hc
      cases he
      simp only [clockStage] at hc
      split at hc
      · split at hc
        · cases hc
        · rename_i hp
          cases hc
          simp only [phi2Rise] at hp
          split at hp
          · cases hp
          · rename_i hd
            cases hp
            exact decode _ hd
      · cases hc

/-- What one colour clock without a service does: it never fails while tags are distinct; the inbox and the write
registers are as before, cc moves on by one, RDY is released at cc 227. -/
theorem tiaStep_idle {t : Tia} (service b4 b5 : Bool) (h : t.tags.Nodup) (hi : service = true → t.inbox = none) :
    ∃ u sig, tiaStep service b4 b5 t = .ok (u, sig) ∧ u.tags.Nodup ∧ u.inbox = t.inbox ∧
      u.registers = t.registers ∧ u.cc = (t.cc + 1) % 228 ∧ u.rdy = (t.rdy || decide (u.cc = 227)) ∧
      (t.Ok → u.Ok) := by
  have hq := queueStage_sameClock t
  obtain ⟨u, hu, hn, hin, hr, hcc, hrdy, hok⟩ := clockStage_ok (queueStage_tags h)
  have hs : serviceStage service u = .ok u := by
    unfold serviceStage
    cases service with
    | false => rfl
    | true => rw [hin, hq.inbox, hi rfl]
  obtain ⟨fc, ft, fok⟩ := finish_kept b4 b5 u
  refine ⟨_, _, tiaStep_eq b4 b5 hu hs, ft ▸ hn, ?_, ?_, ?_, ?_, ?_⟩
  · rw [fc.inbox, hin, hq.inbox]
  · rw [fc.registers, hr, hq.registers]
  · have hcq : (queueStage t).cc = t.cc := by unfold Tia.cc; rw [hq.hsync, hq.pclk]
    have : (latchStage b4 b5 (objectStage u)).cc = u.cc := rfl
    rw [this, hcc, hcq]
  · have : (latchStage b4 b5 (objectStage u)).cc = u.cc := rfl
    rw [this, fc.rdy, hrdy, hq.rdy]
  · intro hk
    exact fok (hok (queueStage_Ok hk))

/-- What one colour clock with a service of a waiting write does. -/
theorem tiaStep_service {t : Tia} (b4 b5 : Bool) {reg : BitVec 6} {v : Byte} (h : t.tags.Nodup)
    (hi : t.inbox = some (reg, v)) :
    ∃ u sig, tiaStep true b4 b5 t = .ok (u, sig) ∧ u.tags.Nodup ∧ u.inbox = none ∧
      u.registers = (tiaWritten reg v t).registers ∧ (t.Ok → u.Ok) := by
  have hq := queueStage_sameClock t
  obtain ⟨u, hu, hn, hin, hr, -, -, hok⟩ := clockStage_ok (queueStage_tags h)
  have hn' : ({ u with inbox := none } : Tia).tags.Nodup := hn
  obtain ⟨w, hw, hwn, hwi, hwok⟩ := tiaWrite_ok reg v hn'
  have hs : serviceStage true u = .ok w := by
    unfold serviceStage
    rw [hin, hq.inbox, hi]
    exact hw
  obtain ⟨fc, ft, fok⟩ := finish_kept b4 b5 w
  refine ⟨_, _, tiaStep_eq b4 b5 hu hs, ft ▸ hwn, ?_, ?_, ?_⟩
  · rw [fc.inbox, hwi]
  · have e : w = tiaWritten reg v { u with inbox := none } := by unfold tiaWritten; rw [hw]; rfl
    rw [fc.registers, e]
    refine tiaWrite_registers reg v ?_
    have : ({ u with inbox := none } : Tia).registers = u.registers := rfl
    rw [this, hr, hq.registers]
  · intro hk
    exact fok (hwok (hok (queueStage_Ok hk)))

/-- What the first colour clock of a tick does, whether or not a write waits. -/
theorem tiaStep_first {t : Tia} (b4 b5 : Bool) (h : t.tags.Nodup) :
    ∃ u sig, tiaStep true b4 b5 t = .ok (u, sig) ∧ u.tags.Nodup ∧ u.inbox = none ∧ u.registers = t.serviced ∧
      (t.Ok → u.Ok) ∧
      (t.inbox = none → u.cc = (t.cc + 1) % 228 ∧ u.rdy = (t.rdy || decide (u.cc = 227))) := by
  unfold Tia.serviced
  cases hi : t.inbox with
  | none =>
    obtain ⟨u, sig, e, hn, hin, hr, hcc, hrdy, hok⟩ := tiaStep_idle true b4 b5 h fun _ => hi
    exact ⟨u, sig, e, hn, hin.trans hi, hr, hok, fun _ => ⟨hcc, hrdy⟩⟩
  | some w =>
    obtain ⟨u, sig, e, hn, hin, hr, hok⟩ := tiaStep_service (reg := w.1) (v := w.2) b4 b5 h hi
    exact ⟨u, sig, e, hn, hin, hr, hok, nofun⟩

end Sys2Proof.Machine
end

