-- ==== Sys2Proof/Laws/Ops.lean ====
section
/-! SUPPORT. The shared operations of Machine/Ops.lean: what a tick, a stall, a read cycle, a write cycle, a push
and a pull do, once each. -/

namespace Sys2Proof.Machine

section andThen
variable {α β : Type}

@[simp] theorem andThen_next (a : α) (k : α → Host.Outcome β Fault Refusal) : andThen (.next a) k = k a := rfl
@[simp] theorem andThen_fault (r : Fault) (k : α → Host.Outcome β Fault Refusal) :
    andThen (.fault r) k = .fault r := rfl
@[simp] theorem andThen_refused (r : Refusal) (k : α → Host.Outcome β Fault Refusal) :
    andThen (.refused r) k = .refused r := rfl

/-- A sequence that answers a next state has gone through a next state. -/
theorem andThen_eq_next {o : Host.Outcome α Fault Refusal} {k : α → Host.Outcome β Fault Refusal} {b : β} :
    andThen o k = .next b ↔ ∃ a, o = .next a ∧ k a = .next b := by
  cases o <;> simp

end andThen

/-! ### The relations of Safety.lean -/

theorem SameCpu.refl (s : State) : SameCpu s s := ⟨rfl, rfl, rfl, rfl, rfl, rfl, rfl, rfl, rfl, rfl, rfl, rfl⟩

theorem SameCpu.trans {s t u : State} (h : SameCpu s t) (k : SameCpu t u) : SameCpu s u where
  a := k.a.trans h.a
  x := k.x.trans h.x
  y := k.y.trans h.y
  sp := k.sp.trans h.sp
  pc := k.pc.trans h.pc
  p := k.p.trans h.p
  irqLine := k.irqLine.trans h.irqLine
  nmiLine := k.nmiLine.trans h.nmiLine
  nmiPending := k.nmiPending.trans h.nmiPending
  fault := k.fault.trans h.fault
  reports := k.reports.trans h.reports
  last := k.last.trans h.last

theorem Frame.trans {s t u : State} (h : Frame s t) (k : Frame t u) : Frame s u where
  cpu := h.cpu.trans k.cpu
  mem := k.mem.trans h.mem
  tia := k.tia.trans h.tia
  riot := k.riot.trans h.riot
  rom := fun e => k.rom (h.rom e)
  ready := k.ready

theorem Counted.refl (s : State) : Counted s s := ⟨0, rfl, rfl, rfl⟩

theorem Counted.trans {s t u : State} (h : Counted s t) (k : Counted t u) : Counted s u := by
  obtain ⟨m, h1, h2, h3⟩ := h
  obtain ⟨n, k1, k2, k3⟩ := k
  exact ⟨m + n, by omega, by omega, by omega⟩

/-- The ranges of both chips. -/
def ChipsOk (s : State) : Prop := s.tia.Ok ∧ s.riot.Ok

/-- Bus cycles have run, n of them counted in the record, with no write among them. -/
structure Ran (n : Nat) (s t : State) : Prop where
  frame   : Frame s t
  cur     : t.cur = { s.cur with cycles := s.cur.cycles + n }
  counted : Counted s t
  chips   : ChipsOk s → ChipsOk t

theorem Ran.refl {s : State} (h : Ready s) : Ran 0 s s :=
  ⟨⟨SameCpu.refl s, rfl, rfl, rfl, id, h⟩, rfl, Counted.refl s, id⟩

theorem Ran.trans {m n : Nat} {s t u : State} (h : Ran m s t) (k : Ran n t u) : Ran (m + n) s u where
  frame := h.frame.trans k.frame
  cur := by rw [k.cur, h.cur]; simp only [Nat.add_assoc]
  counted := h.counted.trans k.counted
  chips := fun e => k.chips (h.chips e)

theorem Ran.ready {n : Nat} {s t : State} (h : Ran n s t) : Ready t := h.frame.ready

/-! ### The tick (64_scheduler.md R490) -/

/-- What a tick does. -/
structure Ticked (s t : State) : Prop where
  cpu    : SameCpu s t
  mem    : t.mem = s.mem
  cur    : t.cur = s.cur
  halted : t.halted = s.halted
  rom    : s.cart = .rom → t.cart = .rom
  ready  : Ready t
  count  : t.cycleCount = s.cycleCount + 1 ∧ t.stepCycles = s.stepCycles + 1 ∧
    t.signals.length = s.signals.length + 3
  tia    : t.tia.registers = s.tia.serviced
  riot   : t.riot.registers = s.riot.serviced
  chips  : ChipsOk s → ChipsOk t
  clock  : s.tia.inbox = none →
    t.tia.cc = (s.tia.cc + 3) % 228 ∧ t.tia.rdy = (s.tia.rdy || decide (224 ≤ s.tia.cc ∧ s.tia.cc ≤ 226))

theorem cc_lt (t : Tia) : t.cc < 228 := by
  have := t.hsync.isLt
  unfold Tia.cc
  omega

/-- A tick never fails while the tags of the delay queue are distinct, and this is what it does. -/
theorem tick_ok {s : State} (h : s.tia.tags.Nodup) : ∃ t, tick s = .next t ∧ Ticked s t := by
  obtain ⟨u1, sig1, e1, hn1, hi1, hr1, hok1, hc1⟩ :=
    tiaStep_first (Config.button4 (s.draws + 1)) (Config.button5 (s.draws + 1)) h
  obtain ⟨u2, sig2, e2, hn2, hi2, hr2, hcc2, hrdy2, hok2⟩ :=
    tiaStep_idle false (Config.button4 (s.draws + 2)) (Config.button5 (s.draws + 2)) hn1 nofun
  obtain ⟨u3, sig3, e3, hn3, hi3, hr3, hcc3, hrdy3, hok3⟩ :=
    tiaStep_idle true (Config.button4 (s.draws + 3)) (Config.button5 (s.draws + 3)) hn2 fun _ => hi2.trans hi1
  obtain ⟨q1, q2, q3⟩ := riotStep_kept ((Config.pinA s.draws).getLsbD 7) s.riot
  refine ⟨(((tickRiot (tickCart (countCycle s))).clocked u1 sig1).clocked u2 sig2).clocked u3 sig3, ?_, ?_⟩
  · simp only [tick, tickTia, tickRiot_draws, tickCart_draws, countCycle_draws, tickRiot_tia, tickCart_tia,
      countCycle_tia, e1, andThen_next, State.clocked_draws, State.clocked_tia, e2, e3]
  · refine ⟨by constructor <;> simp, by simp, by simp, by simp, ?_, ?_, by simp, ?_, ?_, ?_, ?_⟩
    · intro e
      simp only [State.clocked_cart, tickRiot_cart, tickCart_cart, countCycle_cart, e, Cart.afterStep]
    · exact ⟨(hi3.trans hi2).trans hi1, q1, hn3⟩
    · exact (hr3.trans hr2).trans hr1
    · simpa only [State.clocked_riot, tickRiot_riot, tickCart_draws, countCycle_draws, tickCart_riot, countCycle_riot]
        using q3
    · intro k
      refine ⟨hok3 (hok2 (hok1 k.1)), ?_⟩
      simpa only [State.clocked_riot, tickRiot_riot, tickCart_draws, countCycle_draws, tickCart_riot,
        countCycle_riot] using q2 k.2
    · intro hnone
      obtain ⟨hcc1, hrdy1⟩ := hc1 hnone
      have hlt := cc_lt s.tia
      simp only [State.clocked_tia]
      refine ⟨by omega, ?_⟩
      rw [hrdy3, hrdy2, hrdy1, hcc3, hcc2, hcc1]
      have e : (decide ((s.tia.cc + 1) % 228 = 227) || decide (((s.tia.cc + 1) % 228 + 1) % 228 = 227) ||
          decide ((((s.tia.cc + 1) % 228 + 1) % 228 + 1) % 228 = 227)) =
          decide (224 ≤ s.tia.cc ∧ s.tia.cc ≤ 226) := by
        rw [← Bool.decide_or, ← Bool.decide_or]
        exact decide_eq_decide.2 (by omega)
      rw [← e]
      simp only [Bool.or_assoc]

/-- A cycle whose tick completes is that tick. -/
theorem runCycle_next {start accessed t : State} (h : tick accessed = .next t) : runCycle start accessed = .next t := by
  unfold runCycle
  rw [h]

/-- What a cycle that fails leaves: the start of the cycle but for the TIA, which is as it was at the schedule call
(00_scope.md R12, 60_exceptions.md R303). -/
theorem runCycle_error {start accessed t : State} {tag : Tag}
    (h : runCycle start accessed = .fault (.delayQueueFull tag t)) :
    t = { start with tia := t.tia, fault := some (.delayQueueFull tag) } ∧
    ∃ n ev, ev.tag = tag ∧ schedule n ev t.tia = .error ⟨tag, t.tia⟩ := by
  have clock : ∀ (service : Bool) (s t : State), tickTia service s = .fault (.delayQueueFull tag t) →
      t.fault = some (.delayQueueFull tag) ∧ ∃ n ev, ev.tag = tag ∧ schedule n ev t.tia = .error ⟨tag, t.tia⟩ := by
    intro service s t h
    unfold tickTia at h
    split at h
    · cases h
    · rename_i e he
      cases h
      exact ⟨rfl, tiaStep_error he⟩
  have ticks : ∀ (s t : State), tick s = .fault (.delayQueueFull tag t) →
      t.fault = some (.delayQueueFull tag) ∧ ∃ n ev, ev.tag = tag ∧ schedule n ev t.tia = .error ⟨tag, t.tia⟩ := by
    intro s t h
    unfold tick at h
    cases e1 : tickTia true (tickRiot (tickCart (countCycle s))) with
    | next s1 =>
      rw [e1, andThen_next] at h
      cases e2 : tickTia false s1 with
      | next s2 => rw [e2, andThen_next] at h; exact clock _ _ _ h
      | fault f => rw [e2] at h; cases h; exact clock _ _ _ e2
      | refused r => rw [e2] at h; cases h
    | fault f => rw [e1] at h; cases h; exact clock _ _ _ e1
    | refused r => rw [e1] at h; cases h
  unfold runCycle at h
  split at h
  · rename_i tag' t' ht
    cases h
    obtain ⟨hf, hs⟩ := ticks _ _ ht
    exact ⟨by rw [hf], hs⟩
  · rename_i hne
    exact absurd h (hne _ _)

/-- A tick between cycles. -/
theorem tick_ready {s : State} (h : Ready s) : ∃ t, tick s = .next t ∧ Ticked s t ∧ Ran 0 s t := by
  obtain ⟨t, e, k⟩ := tick_ok h.2.2
  have ht := k.tia
  have hr := k.riot
  simp only [Tia.serviced, h.1] at ht
  simp only [Riot.serviced, h.2.1] at hr
  exact ⟨t, e, k, ⟨k.cpu, k.mem, ht, hr, k.rom, k.ready⟩, k.cur, ⟨1, k.count.1, k.count.2.1, k.count.2.2⟩, k.chips⟩

/-! ### RDY stalls (64_scheduler.md R493) -/

/-- The stall cycles up to the one whose clocks contain cc 227, from a clock with RDY low (61_tia_clock.md R357;
from cc 227 itself a whole line). -/
def stallCycles (cc : Nat) : Nat := if cc = 227 then 76 else (229 - cc) / 3

theorem stallFor_ready (fuel : Nat) : ∀ {s : State}, Ready s → (s.tia.rdy = true ∨ stallCycles s.tia.cc ≤ fuel) →
    ∃ t, stallFor fuel s = .next t ∧ Ran 0 s t ∧ t.tia.rdy = true ∧ t.halted = false ∧
      t.cycleCount = s.cycleCount + (if s.tia.rdy then 0 else stallCycles s.tia.cc) ∧
      (s.tia.rdy = false → t.tia.cc = (s.tia.cc + 3 * stallCycles s.tia.cc) % 228) := by
  have base : ∀ {s : State}, Ready s → s.tia.rdy = true → Ran 0 s (s.setHalted false) :=
    fun h _ => ⟨⟨⟨rfl, rfl, rfl, rfl, rfl, rfl, rfl, rfl, rfl, rfl, rfl, rfl⟩, rfl, rfl, rfl, id, h⟩, rfl,
      ⟨0, rfl, rfl, rfl⟩, id⟩
  induction fuel with
  | zero =>
    intro s h hw
    have hrdy : s.tia.rdy = true := by
      rcases hw with hw | hw
      · exact hw
      · have := cc_lt s.tia
        unfold stallCycles at hw
        split at hw <;> omega
    exact ⟨s.setHalted false, by simp [stallFor, hrdy], base h hrdy, hrdy, rfl, by simp [hrdy], by simp [hrdy]⟩
  | succ fuel ih =>
    intro s h hw
    cases hrdy : s.tia.rdy with
    | true =>
      exact ⟨s.setHalted false, by simp [stallFor, hrdy], base h hrdy, hrdy, rfl, by simp, by simp⟩
    | false =>
      have hh : Ready (s.setHalted true) := h
      obtain ⟨u, e, k, r⟩ := tick_ready hh
      obtain ⟨hcc, hr⟩ := k.clock h.1
      simp only [State.setHalted_tia] at hcc hr
      rw [hrdy, Bool.false_or] at hr
      have hlt := cc_lt s.tia
      have hw' : stallCycles s.tia.cc ≤ fuel + 1 := by simpa [hrdy] using hw
      have hnext : stallCycles s.tia.cc = 1 + (if u.tia.rdy then 0 else stallCycles u.tia.cc) ∧
          (u.tia.rdy = true ∨ stallCycles u.tia.cc ≤ fuel) := by
        by_cases hin : 224 ≤ s.tia.cc ∧ s.tia.cc ≤ 226
        · have : u.tia.rdy = true := by simpa [hin] using hr
          refine ⟨?_, .inl this⟩
          rw [if_pos this]
          unfold stallCycles
          split <;> omega
        · have : u.tia.rdy = false := by simpa [hin] using hr
          have hstep : stallCycles s.tia.cc = 1 + stallCycles u.tia.cc := by
            unfold stallCycles
            rw [hcc]
            split <;> split <;> omega
          exact ⟨by simp [this, hstep], .inr (by omega)⟩
      obtain ⟨t, et, rt, h1, h2, h3, h4⟩ := ih k.ready hnext.2
      refine ⟨t, by simp only [stallFor, hrdy, runCycle_next e, andThen_next, et]; rfl, ?_, h1, h2, ?_, ?_⟩
      · have hset : Ran 0 s (s.setHalted true) :=
          ⟨⟨⟨rfl, rfl, rfl, rfl, rfl, rfl, rfl, rfl, rfl, rfl, rfl, rfl⟩, rfl, rfl, rfl, id, h⟩, rfl,
            ⟨0, rfl, rfl, rfl⟩, id⟩
        exact (hset.trans r).trans rt
      · have hc : u.cycleCount = s.cycleCount + 1 := k.count.1
        rw [h3, hc, hnext.1]
        simp only [Bool.false_eq_true, if_false]
        omega
      · intro _
        cases hu : u.tia.rdy with
        | true =>
          have hz : t.cycleCount = u.cycleCount := by rw [h3, hu]; rfl
          have e' : t = u.setHalted false := by
            have := et
            cases fuel <;> simp [stallFor, hu] at this <;> exact this.symm
          rw [e', hnext.1, hu]
          simp only [State.setHalted_tia, if_true]
          rw [hcc]
        | false =>
          have := h4 hu
          rw [this, hnext.1, hu, hcc]
          simp only [Bool.false_eq_true, if_false]
          omega

/-- A stall between cycles always ends, within 76 cycles, and changes nothing of the CPU's (log 14). -/
theorem stall_ready {s : State} (h : Ready s) :
    ∃ t, stall s = .next t ∧ Ran 0 s t ∧ t.tia.rdy = true ∧ t.halted = false ∧
      t.cycleCount = s.cycleCount + (if s.tia.rdy then 0 else stallCycles s.tia.cc) ∧
      (s.tia.rdy = false → t.tia.cc = (s.tia.cc + 3 * stallCycles s.tia.cc) % 228) := by
  refine stallFor_ready stallBound h (.inr ?_)
  have := cc_lt s.tia
  unfold stallCycles stallBound
  split <;> omega

/-- With RDY high there is no stall. -/
theorem stall_rdy {s : State} (h : s.tia.rdy = true) : stall s = .next (s.setHalted false) := by
  unfold stall stallBound stallFor
  rw [if_pos h]

/-! ### Read cycles (00_scope.md R11, 20_memory.md R87) -/

theorem riotAfterRead_kept (a13 : Addr13) (s : State) :
    (riotAfterRead a13 s).inbox = s.riot.inbox ∧ (s.riot.Ok → (riotAfterRead a13 s).Ok) ∧
      (riotAfterRead a13 s).registers = s.riot.registers := by
  unfold riotAfterRead
  split
  · exact riotRead_kept _ _ _ _
  · exact ⟨rfl, id, rfl⟩

theorem cartAfterRead_rom {a13 : Addr13} {s : State} (h : s.cart = .rom) : cartAfterRead a13 s = .rom := by
  unfold cartAfterRead
  rw [h]
  split <;> rfl

/-- The bus access of a read cycle counts in the record and changes nothing of what Frame names. -/
theorem afterRead_ran {s : State} (addr : Word) (h : Ready s) : Ran 1 s (afterRead addr s).noteCycle := by
  obtain ⟨hi, hok, hr⟩ := riotAfterRead_kept (busAddr addr) s
  exact ⟨⟨⟨rfl, rfl, rfl, rfl, rfl, rfl, rfl, rfl, rfl, rfl, rfl, rfl⟩, rfl, rfl, hr, cartAfterRead_rom,
    h.1, hi.trans h.2.1, h.2.2⟩, rfl, ⟨0, rfl, rfl, rfl⟩, fun k => ⟨k.1, hok k.2⟩⟩

/-- What a read cycle does: it answers the byte of the bus as the stall leaves the machine (R87, R493). -/
theorem memRead_ready {s : State} (addr : Word) (h : Ready s) :
    ∃ s1 t, stall s = .next s1 ∧ memRead addr s = .next (readValue (busAddr addr) s1, t) ∧ Ran 0 s s1 ∧
      Ran 1 s t := by
  obtain ⟨s1, e1, r1, -⟩ := stall_ready h
  have ra := afterRead_ran addr r1.ready
  obtain ⟨t, e2, -, r2⟩ := tick_ready ra.ready
  refine ⟨s1, t, e1, ?_, r1, by simpa using (r1.trans ra).trans r2⟩
  simp only [memRead, e1, andThen_next, busRead, runCycle_next e2]

/-- A plain byte of RAM or ROM, as the bus reads it. -/
theorem readValue_code {s : State} {addr : Word} {b : Byte} (h : plainByte s addr = some b) :
    readValue (busAddr addr) s = b := by
  unfold plainByte at h
  split at h
  · rename_i hc
    unfold plainTarget at h
    unfold readValue
    split at h
    · rename_i hsel
      simpa [hsel] using h
    · rename_i hsel
      have hrom : s.cart = .rom := by
        rcases hc with hc | hc
        · exact hc
        · unfold chipSelect at hsel
          simp only [hc, Bool.false_eq_true, if_false] at hsel
          split at hsel <;> [split at hsel <;> cases hsel; cases hsel]
      simpa [hsel, hrom, Cart.value] using h
    · cases h
  · cases h

/-- Cycles without a write leave plain bytes as they are. -/
theorem Ran.plainByte {n : Nat} {s t : State} {addr : Word} {b : Byte} (h : Ran n s t)
    (hb : plainByte s addr = some b) : Machine.plainByte t addr = some b := by
  unfold Machine.plainByte at hb ⊢
  split at hb
  · rename_i hc
    rw [if_pos (hc.imp h.frame.rom id), h.frame.mem]
    exact hb
  · cases hb

/-- A read cycle at a plain byte answers that byte. -/
theorem memRead_code {s : State} {addr : Word} {b : Byte} (h : Ready s) (hb : plainByte s addr = some b) :
    ∃ t, memRead addr s = .next (b, t) ∧ Ran 1 s t := by
  obtain ⟨s1, t, -, e, r1, r⟩ := memRead_ready addr h
  exact ⟨t, by rw [e, readValue_code (r1.plainByte hb)], r⟩

/-- What a dummy read does. -/
theorem dummyRead_ready {s : State} (addr : Word) (h : Ready s) : ∃ t, dummyRead addr s = .next t ∧ Ran 1 s t := by
  obtain ⟨s1, t, -, e, -, r⟩ := memRead_ready addr h
  exact ⟨t, by simp only [dummyRead, e, andThen_next], r⟩

/-! ### Write cycles (20_memory.md R86) -/

/-- What a write cycle does. -/
structure Wrote (addr : Word) (v : Byte) (s t : State) : Prop where
  cpu     : SameCpu s t
  mem     : t.mem = memAfterWrite (busAddr addr) v s
  tia     : t.tia.registers =
    if chipSelect (busAddr addr) = .tia then (tiaWritten ((busAddr addr).extractLsb' 0 6) v s.tia).registers
    else s.tia.registers
  riot    : t.riot.registers =
    if chipSelect (busAddr addr) = .riot then (riotWrite (riotWriteReg (busAddr addr)) v s.riot).registers
    else s.riot.registers
  rom     : s.cart = .rom → t.cart = .rom
  ready   : Ready t
  counted : Counted s t
  chips   : ChipsOk s → ChipsOk t

/-- In a memory in canonical form, a write cycle is a store. -/
theorem Wrote.stored {addr : Word} {v : Byte} {s t : State} (h : Wrote addr v s t) (hm : s.mem.wf = true) :
    Stored addr v s t where
  byte := fun k hk => by rw [h.mem, read_memAfterWrite hm, if_pos hk]
  others := fun k hk => by rw [h.mem, read_memAfterWrite hm, if_neg hk]
  tia := h.tia
  riot := h.riot
  rom := h.rom
  ready := h.ready

theorem inboxFull_ready {s : State} (a13 : Addr13) (h : Ready s) : inboxFull a13 s = false := by
  unfold inboxFull
  rw [h.1, h.2.1]
  rfl

/-- Between cycles a write cycle always completes. -/
theorem memWrite_ready {s : State} (addr : Word) (v : Byte) (h : Ready s) :
    ∃ t, memWrite addr v s = .next t ∧ Wrote addr v s t ∧ t.cur = { s.cur with cycles := s.cur.cycles + 1 } := by
  have htags : (afterWrite addr v s).noteCycle.tia.tags.Nodup := by
    simp only [State.noteCycle_tia, afterWrite_tia, tiaAfterWrite]
    split <;> exact h.2.2
  obtain ⟨t, e, k⟩ := tick_ok htags
  refine ⟨t, by simp only [memWrite, busWrite, inboxFull_ready _ h, Bool.false_eq_true, if_false, andThen_next,
      runCycle_next e],
    ?_, k.cur⟩
  have cpu : SameCpu s (afterWrite addr v s).noteCycle := ⟨rfl, rfl, rfl, rfl, rfl, rfl, rfl, rfl, rfl, rfl, rfl, rfl⟩
  refine ⟨cpu.trans k.cpu, k.mem, ?_, ?_, ?_, k.ready, ⟨1, k.count.1, k.count.2.1, k.count.2.2⟩, ?_⟩
  · rw [k.tia]
    simp only [State.noteCycle_tia, afterWrite_tia, tiaAfterWrite, Tia.serviced]
    cases hsel : chipSelect (busAddr addr) with
    | tia =>
      simp only [if_true]
      exact tiaWrite_registers _ _ rfl
    | cart off => simp [h.1]
    | ram i => simp [h.1]
    | riot => simp [h.1]
  · rw [k.riot]
    simp only [State.noteCycle_riot, afterWrite_riot, riotAfterWrite, Riot.serviced]
    cases hsel : chipSelect (busAddr addr) with
    | riot =>
      simp only [if_true]
      exact riotWrite_registers _ _ rfl
    | cart off => simp [h.2.1]
    | ram i => simp [h.2.1]
    | tia => simp [h.2.1]
  · intro e
    refine k.rom ?_
    simp only [State.noteCycle_cart, afterWrite_cart, cartAfterWrite, e]
    split <;> rfl
  · intro hc
    refine k.chips ⟨?_, ?_⟩
    · simp only [State.noteCycle_tia, afterWrite_tia, tiaAfterWrite]
      split <;> exact hc.1
    · simp only [State.noteCycle_riot, afterWrite_riot, riotAfterWrite]
      split <;> exact hc.2

end Sys2Proof.Machine
end

