-- ==== Sys2Proof/Laws/Operands.lean ====
section
/-! SUPPORT. The operand forms of Machine/Operands.lean and the stack operations of Machine/Ops.lean: between two
cycles each completes, and this is what it does. -/

namespace Sys2Proof.Machine

/-! ### Updates that cycles do not see -/

/-- An update of the CPU that depends on the CPU alone and touches nothing else. -/
structure CpuOp (f : State → State) : Prop where
  same  : ∀ s t, SameCpu s t → SameCpu (f s) (f t)
  cur   : ∀ s, (f s).cur = s.cur
  mem   : ∀ s, (f s).mem = s.mem
  tia   : ∀ s, (f s).tia = s.tia
  riot  : ∀ s, (f s).riot = s.riot
  cart  : ∀ s, (f s).cart = s.cart
  count : ∀ s, (f s).cycleCount = s.cycleCount ∧ (f s).stepCycles = s.stepCycles ∧ (f s).signals = s.signals

/-- Whatever ran before such an update may be seen as running after it. -/
theorem Ran.op {n : Nat} {f : State → State} (hf : CpuOp f) {s t : State} (h : Ran n s t) : Ran n (f s) (f t) where
  frame :=
    { cpu := hf.same s t h.frame.cpu
      mem := by rw [hf.mem, hf.mem, h.frame.mem]
      tia := by rw [hf.tia, hf.tia, h.frame.tia]
      riot := by rw [hf.riot, hf.riot, h.frame.riot]
      rom := by rw [hf.cart, hf.cart]; exact h.frame.rom
      ready := by unfold Ready; rw [hf.tia, hf.riot]; exact h.frame.ready }
  cur := by rw [hf.cur, hf.cur, h.cur]
  counted := by
    obtain ⟨k, h1, h2, h3⟩ := h.counted
    obtain ⟨a1, a2, a3⟩ := hf.count s
    obtain ⟨b1, b2, b3⟩ := hf.count t
    exact ⟨k, by rw [a1, b1, h1], by rw [a2, b2, h2], by rw [a3, b3, h3]⟩
  chips := by unfold ChipsOk; rw [hf.tia, hf.tia, hf.riot, hf.riot]; exact h.chips

theorem setSp_op (v : Byte) : CpuOp (State.setSp · v) where
  same := fun _ _ h => ⟨h.a, h.x, h.y, rfl, h.pc, h.p, h.irqLine, h.nmiLine, h.nmiPending, h.fault, h.reports, h.last⟩
  cur := fun _ => rfl
  mem := fun _ => rfl
  tia := fun _ => rfl
  riot := fun _ => rfl
  cart := fun _ => rfl
  count := fun _ => ⟨rfl, rfl, rfl⟩

/-- Cycles seen from a state whose record differs. -/
theorem Ran.withCur {n : Nat} {s t : State} (h : Ran n s t) (c : LastResult) :
    Ran n (s.setCur c) (t.setCur { c with cycles := c.cycles + n }) :=
  ⟨⟨⟨h.frame.cpu.a, h.frame.cpu.x, h.frame.cpu.y, h.frame.cpu.sp, h.frame.cpu.pc, h.frame.cpu.p,
      h.frame.cpu.irqLine, h.frame.cpu.nmiLine, h.frame.cpu.nmiPending, h.frame.cpu.fault, h.frame.cpu.reports,
      h.frame.cpu.last⟩, h.frame.mem, h.frame.tia, h.frame.riot, h.frame.rom, h.frame.ready⟩,
    rfl, h.counted, h.chips⟩

/-- SameCpu, Frame, Wrote and Stored do not look at the record. -/
theorem SameCpu.ofCur {s t : State} {c : LastResult} (h : SameCpu (s.setCur c) t) : SameCpu s t :=
  ⟨h.a, h.x, h.y, h.sp, h.pc, h.p, h.irqLine, h.nmiLine, h.nmiPending, h.fault, h.reports, h.last⟩

theorem Frame.ofCur {s t : State} {c : LastResult} (h : Frame (s.setCur c) t) : Frame s t :=
  ⟨h.cpu.ofCur, h.mem, h.tia, h.riot, h.rom, h.ready⟩

theorem Wrote.ofCur {addr : Word} {v : Byte} {s t : State} {c : LastResult} (h : Wrote addr v (s.setCur c) t) :
    Wrote addr v s t :=
  ⟨h.cpu.ofCur, h.mem, h.tia, h.riot, h.rom, h.ready, h.counted, h.chips⟩

theorem Stored.ofCur {addr : Word} {v : Byte} {s t : State} {c : LastResult} (h : Stored addr v (s.setCur c) t) :
    Stored addr v s t :=
  ⟨h.byte, h.others, h.tia, h.riot, h.rom, h.ready⟩

/-- What a record keeps while operands are noted in it, and whether a page was crossed. -/
structure Noted (crossed : Bool) (c d : LastResult) : Prop where
  address : d.address = c.address
  opcode  : d.opcode = c.opcode
  defn    : d.defn = c.defn
  cycles  : d.cycles = c.cycles
  bug     : d.bug = c.bug
  final   : d.final = c.final
  crossed : c.pageCrossed = false → d.pageCrossed = crossed

/-! ### Address phases (40_addressing.md R143 to R150) -/

/-- Cycles of the address phase after the operand bytes. -/
def addressCycles : MemMode → Nat
  | .zeroPage _ | .absolute _ | .absoluteX _ | .absoluteY _ => 0
  | .zeroPageX _ | .zeroPageY _ => 1
  | .preIndexed _ => 3
  | .postIndexed _ => 2

/-- The modes that compute a partial address (R147, R148, R150). -/
def indexedMode : MemMode → Bool
  | .absoluteX _ | .absoluteY _ | .postIndexed _ => true
  | _ => false

theorem zeroPagePointer_ready {s : State} (p : Byte) (h : Ready s) :
    ∃ lo s1 hi t, memRead (zext16 p) s = .next (lo, s1) ∧ memRead (zext16 (p + 1)) s1 = .next (hi, t) ∧
      zeroPagePointer p s = .next (word hi lo, t) ∧ Ran 1 s s1 ∧ Ran 2 s t := by
  obtain ⟨_, s1, -, e1, -, r1⟩ := memRead_ready (zext16 p) h
  obtain ⟨_, t, -, e2, -, r2⟩ := memRead_ready (zext16 (p + 1)) r1.ready
  exact ⟨_, s1, _, t, e1, e2, by simp only [zeroPagePointer, e1, e2, andThen_next], r1, r1.trans r2⟩

/-- The address phase completes; only indexed modes give a partial address, and where the address is not indexed
or the page is not crossed the two addresses agree. -/
theorem addressPhase_ready {s : State} (m : MemMode) (h : Ready s) :
    ∃ ad t, addressPhase m s = .next (ad, t) ∧ Ran (addressCycles m) s t ∧ ad.indexed = indexedMode m ∧
      (ad.indexed = false → ad.crossed = false) := by
  cases m with
  | zeroPage b1 => exact ⟨_, s, rfl, Ran.refl h, rfl, fun _ => rfl⟩
  | zeroPageX b1 =>
    obtain ⟨t, e, r⟩ := dummyRead_ready (zext16 b1) h
    exact ⟨_, t, by simp only [addressPhase, zeroPageIndexed, e, andThen_next]; rfl, r, rfl, fun _ => rfl⟩
  | zeroPageY b1 =>
    obtain ⟨t, e, r⟩ := dummyRead_ready (zext16 b1) h
    exact ⟨_, t, by simp only [addressPhase, zeroPageIndexed, e, andThen_next]; rfl, r, rfl, fun _ => rfl⟩
  | absolute addr => exact ⟨_, s, rfl, Ran.refl h, rfl, fun _ => rfl⟩
  | absoluteX addr => exact ⟨_, s, rfl, Ran.refl h, rfl, nofun⟩
  | absoluteY addr => exact ⟨_, s, rfl, Ran.refl h, rfl, nofun⟩
  | preIndexed b1 =>
    obtain ⟨s1, e1, r1⟩ := dummyRead_ready (zext16 b1) h
    obtain ⟨_, _, _, t, -, -, e2, -, r2⟩ := zeroPagePointer_ready (b1 + s.x) r1.ready
    exact ⟨_, t, by simp only [addressPhase, e1, e2, andThen_next]; rfl, r1.trans r2, rfl, fun _ => rfl⟩
  | postIndexed b1 =>
    obtain ⟨_, _, _, t, -, -, e2, -, r2⟩ := zeroPagePointer_ready b1 h
    exact ⟨_, t, by simp only [addressPhase, e2, andThen_next]; rfl, r2, rfl,
      fun k => Bool.noConfusion (show true = false from k)⟩

theorem resolve_ready {s : State} (m : MemMode) (h : Ready s) :
    ∃ ad t c, resolve m s = .next (ad, t) ∧ Ran (addressCycles m) (s.setCur c) t ∧
      c = { s.cur with ea := some ad.ea } ∧ ad.indexed = indexedMode m ∧ (ad.indexed = false → ad.crossed = false) := by
  obtain ⟨ad, t, e, r, hi, hc⟩ := addressPhase_ready m h
  refine ⟨ad, t.noteEa ad.ea, _, by simp only [resolve, e, andThen_next], ?_, rfl, hi, hc⟩
  have := r.withCur { s.cur with ea := some ad.ea }
  have e : t.noteEa ad.ea = t.setCur { { s.cur with ea := some ad.ea } with cycles := s.cur.cycles + addressCycles m } := by
    unfold State.noteEa
    rw [r.cur]
  rw [e]
  exact this

/-! ### Data phases (R155, R158, R160) -/

/-- The READ data phase completes, with one more cycle when the page is crossed. -/
theorem readPhase_ready {s : State} (ad : EffAddr) (h : Ready s) (hx : ad.indexed = false → ad.crossed = false) :
    ∃ v t c, readPhase ad s = .next (v, t) ∧ Ran (1 + ad.crossed.toNat) (s.setCur c) t ∧
      Noted ad.crossed s.cur c := by
  unfold readPhase
  cases hi : ad.indexed with
  | false =>
    obtain ⟨_, t, -, e, -, r⟩ := memRead_ready ad.ea h
    exact ⟨_, t, s.cur, e, by rw [hx hi]; exact r, rfl, rfl, rfl, rfl, rfl, rfl, fun k => k.trans (hx hi).symm⟩
  | true =>
    obtain ⟨_, t, -, e, -, r⟩ := memRead_ready ad.uncarried h
    simp only [if_true, e, andThen_next]
    cases hc : ad.crossed with
    | false =>
      exact ⟨_, t, s.cur, rfl, r, rfl, rfl, rfl, rfl, rfl, rfl, id⟩
    | true =>
      have r' := r.withCur { s.cur with pageCrossed := true }
      have hn : t.notePageCrossed true =
          t.setCur { { s.cur with pageCrossed := true } with cycles := s.cur.cycles + 1 } := by
        unfold State.notePageCrossed
        rw [r.cur]
      obtain ⟨_, u, -, e2, -, r2⟩ := memRead_ready ad.ea (hn ▸ r'.ready : Ready (t.notePageCrossed true))
      refine ⟨_, u, { s.cur with pageCrossed := true }, e2, ?_, rfl, rfl, rfl, rfl, rfl, rfl, fun _ => rfl⟩
      rw [hn] at r2
      exact r'.trans r2

/-- The cycles of a READ operand without a page cross. -/
def sourceCycles : Source → Nat
  | .immediate _ => 0
  | .memory m => addressCycles m + 1

/-- Reading an operand completes and changes nothing of what Frame names. -/
theorem readSource_ready {s : State} (src : Source) (h : Ready s) :
    ∃ v t c crossed, readSource src s = .next (v, t) ∧ Ran (sourceCycles src + crossed.toNat) (s.setCur c) t ∧
      Noted crossed s.cur c ∧ (crossed = true → ∃ m, src = .memory m ∧ indexedMode m = true) := by
  cases src with
  | immediate imm =>
    exact ⟨imm, s.noteOperand imm, { s.cur with operand := some imm }, false, rfl, Ran.refl h,
      ⟨rfl, rfl, rfl, rfl, rfl, rfl, id⟩, nofun⟩
  | memory m =>
    obtain ⟨ad, s1, c1, e1, r1, hc1, hi, hx⟩ := resolve_ready m h
    obtain ⟨v, s2, c2, e2, r2, hn⟩ := readPhase_ready ad r1.ready hx
    have r2' := r2.withCur { c2 with operand := some v }
    have hcur : s2.noteOperand v =
        s2.setCur { { c2 with operand := some v } with cycles := c2.cycles + (1 + ad.crossed.toNat) } := by
      unfold State.noteOperand
      rw [r2.cur]
      rfl
    have r1' := r1.withCur { c2 with operand := some v, cycles := s.cur.cycles }
    have hc2 : c2.cycles = s.cur.cycles + addressCycles m := by rw [hn.cycles, r1.cur, hc1]; rfl
    have hmid : (s1.setCur c2).setCur { c2 with operand := some v } = s1.setCur
        { { c2 with operand := some v, cycles := s.cur.cycles } with cycles := s.cur.cycles + addressCycles m } := by
      simp only [State.setCur, hc2.symm]
    refine ⟨v, s2.noteOperand v, { c2 with operand := some v, cycles := s.cur.cycles }, ad.crossed, ?_, ?_, ?_, ?_⟩
    · simp only [readSource, e1, e2, andThen_next]
    · rw [hcur]
      rw [hmid] at r2'
      have := r1'.trans r2'
      simp only [sourceCycles]
      rw [← Nat.add_assoc] at this
      exact this
    · refine ⟨?_, ?_, ?_, rfl, ?_, ?_, fun k => ?_⟩
      · exact hn.address.trans (by rw [r1.cur, hc1]; rfl)
      · exact hn.opcode.trans (by rw [r1.cur, hc1]; rfl)
      · exact hn.defn.trans (by rw [r1.cur, hc1]; rfl)
      · exact hn.bug.trans (by rw [r1.cur, hc1]; rfl)
      · exact hn.final.trans (by rw [r1.cur, hc1]; rfl)
      · exact hn.crossed (by rw [r1.cur, hc1]; exact k)
    · intro hcr
      refine ⟨m, rfl, ?_⟩
      rw [← hi]
      by_contra hf
      rw [hx (by simpa using hf)] at hcr
      cases hcr

/-- The dummy read of an indexed WRITE or RMW (R158, R160). -/
theorem indexedDummy_ready {s : State} (ad : EffAddr) (h : Ready s) (hx : ad.indexed = false → ad.crossed = false) :
    ∃ t c, indexedDummy ad s = .next t ∧ Ran ad.indexed.toNat (s.setCur c) t ∧ Noted ad.crossed s.cur c := by
  unfold indexedDummy
  cases hi : ad.indexed with
  | false => exact ⟨s, s.cur, rfl, Ran.refl h, rfl, rfl, rfl, rfl, rfl, rfl, fun k => k.trans (hx hi).symm⟩
  | true =>
    obtain ⟨t, e, r⟩ := dummyRead_ready ad.uncarried (show Ready (s.notePageCrossed ad.crossed) from h)
    exact ⟨t, _, e, r, rfl, rfl, rfl, rfl, rfl, rfl, fun _ => rfl⟩

/-- Reads that come first do not change what a write cycle stores. -/
theorem Wrote.after {n : Nat} {addr : Word} {v : Byte} {s t u : State} (r : Ran n s t) (w : Wrote addr v t u) :
    Wrote addr v s u where
  cpu := r.frame.cpu.trans w.cpu
  mem := by
    rw [w.mem]
    unfold memAfterWrite
    rw [r.frame.mem]
  tia := by rw [w.tia, r.frame.tia, tiaWrite_registers _ _ r.frame.tia]
  riot := by rw [w.riot, r.frame.riot, riotWrite_registers _ _ r.frame.riot]
  rom := fun e => w.rom (r.frame.rom e)
  ready := w.ready
  counted := r.counted.trans w.counted
  chips := fun e => w.chips (r.chips e)

/-- The same of a store. -/
theorem Stored.after {n : Nat} {addr : Word} {v : Byte} {s t u : State} (r : Ran n s t) (w : Stored addr v t u) :
    Stored addr v s u where
  byte := w.byte
  others := fun k hk => by rw [w.others k hk, r.frame.mem]
  tia := by rw [w.tia, r.frame.tia, tiaWrite_registers _ _ r.frame.tia]
  riot := by rw [w.riot, r.frame.riot, riotWrite_registers _ _ r.frame.riot]
  rom := fun e => w.rom (r.frame.rom e)
  ready := w.ready

/-- A WRITE instruction completes: its address phase, the dummy read of an indexed mode, then a write cycle that stores
its value there, counted as R163 says. -/
theorem writeOp_ready {s : State} (m : MemMode) (v : Byte) (h : Ready s) :
    ∃ ad s1 s2 t, resolve m s = .next (ad, s1) ∧ indexedDummy ad s1 = .next s2 ∧
      memWrite ad.ea v (s2.noteOperand v) = .next t ∧ writeOp m v s = .next t ∧ Wrote ad.ea v s t ∧
      ad.indexed = indexedMode m ∧
      ∃ c, Noted ad.crossed s.cur c ∧ t.cur = { c with cycles := s.cur.cycles + addressCycles m + ad.indexed.toNat + 1 } := by
  obtain ⟨ad, s1, c1, e1, r1, hc1, hi, hx⟩ := resolve_ready m h
  obtain ⟨s2, c2, e2, r2, hn⟩ := indexedDummy_ready ad r1.ready hx
  obtain ⟨t, e3, w, hcur⟩ := memWrite_ready ad.ea v (show Ready (s2.noteOperand v) from r2.ready)
  have w' : Wrote ad.ea v s t := (Wrote.after r1 (Wrote.after r2 w.ofCur).ofCur).ofCur
  refine ⟨ad, s1, s2, t, e1, e2, e3, by simp only [writeOp, e1, andThen_next, writePhase, e2, e3], w', hi,
    { c2 with operand := some v, cycles := s.cur.cycles }, ⟨?_, ?_, ?_, rfl, ?_, ?_, fun k => ?_⟩, ?_⟩
  · exact hn.address.trans (by rw [r1.cur, hc1]; rfl)
  · exact hn.opcode.trans (by rw [r1.cur, hc1]; rfl)
  · exact hn.defn.trans (by rw [r1.cur, hc1]; rfl)
  · exact hn.bug.trans (by rw [r1.cur, hc1]; rfl)
  · exact hn.final.trans (by rw [r1.cur, hc1]; rfl)
  · exact hn.crossed (by rw [r1.cur, hc1]; exact k)
  · have hc2 : c2.cycles = s.cur.cycles + addressCycles m := by rw [hn.cycles, r1.cur, hc1]; rfl
    rw [hcur]
    simp only [State.noteOperand_cur, r2.cur, State.setCur_cur, hc2]

/-- An RMW instruction completes: address phase, dummy read when indexed, read, write back, write (R160). -/
theorem rmwOp_ready {s : State} (m : MemMode) (f : Byte → Byte) (g : Byte → State → State) (h : Ready s)
    (hm : s.mem.wf = true) :
    ∃ ad s1 s2 v s3 u t, resolve m s = .next (ad, s1) ∧ indexedDummy ad s1 = .next s2 ∧
      memRead ad.ea s2 = .next (v, s3) ∧ memWrite ad.ea v (s3.noteOperand v) = .next u ∧
      memWrite ad.ea (f v) u = .next t ∧ rmwOp m f g s = .next (g v t) ∧ SameCpu s t ∧
      Stored ad.ea v s u ∧ Stored ad.ea (f v) u t ∧ Counted s t ∧ (ChipsOk s → ChipsOk t) ∧ t.mem.wf = true ∧
      ad.indexed = indexedMode m ∧
      ∃ c, Noted ad.crossed s.cur c ∧ t.cur = { c with cycles := s.cur.cycles + addressCycles m + ad.indexed.toNat + 3 } := by
  obtain ⟨ad, s1, c1, e1, r1, hc1, hi, hx⟩ := resolve_ready m h
  obtain ⟨s2, c2, e2, r2, hn⟩ := indexedDummy_ready ad r1.ready hx
  obtain ⟨_, s3, -, e3, -, r3⟩ := memRead_ready ad.ea r2.ready
  generalize hv : readValue _ _ = v at e3
  obtain ⟨u, e4, w4, hcur4⟩ := memWrite_ready ad.ea v (show Ready (s3.noteOperand v) from r3.ready)
  obtain ⟨t, e5, w5, hcur5⟩ := memWrite_ready ad.ea (f v) w4.ready
  have mem3 : s3.mem = s.mem := by rw [r3.frame.mem, r2.frame.mem, State.setCur_mem, r1.frame.mem, State.setCur_mem]
  have st4 := w4.stored (show (s3.noteOperand v).mem.wf = true by rw [State.noteOperand_mem, mem3]; exact hm)
  have wfu : u.mem.wf = true := by
    rw [w4.mem]; exact memAfterWrite_wf (by rw [State.noteOperand_mem, mem3]; exact hm)
  have hc2 : c2.cycles = s.cur.cycles + addressCycles m := by rw [hn.cycles, r1.cur, hc1]; rfl
  have cpu3 : SameCpu s s3 := (r1.frame.ofCur.cpu.trans r2.frame.ofCur.cpu).trans r3.frame.cpu
  refine ⟨ad, s1, s2, v, s3, u, t, e1, e2, e3, e4, e5, ?_, ?_, ?_, w5.stored wfu, ?_, ?_, ?_, hi, { c2 with
    operand := some v, cycles := s.cur.cycles }, ⟨?_, ?_, ?_, rfl, ?_, ?_, fun k => ?_⟩, ?_⟩
  · simp only [rmwOp, rmwPhase, e1, e2, e3, e4, e5, andThen_next]
  · exact (cpu3.trans w4.cpu.ofCur).trans w5.cpu
  · exact (Stored.after r1 (Stored.after r2 (Stored.after r3 st4.ofCur)).ofCur).ofCur
  · exact (((r1.counted.trans r2.counted).trans r3.counted).trans w4.counted).trans w5.counted
  · exact fun k => w5.chips (w4.chips (r3.chips (r2.chips (r1.chips k))))
  · rw [w5.mem]; exact memAfterWrite_wf wfu
  · exact hn.address.trans (by rw [r1.cur, hc1]; rfl)
  · exact hn.opcode.trans (by rw [r1.cur, hc1]; rfl)
  · exact hn.defn.trans (by rw [r1.cur, hc1]; rfl)
  · exact hn.bug.trans (by rw [r1.cur, hc1]; rfl)
  · exact hn.final.trans (by rw [r1.cur, hc1]; rfl)
  · exact hn.crossed (by rw [r1.cur, hc1]; exact k)
  · rw [hcur5, hcur4]
    simp only [State.noteOperand_cur, r3.cur, r2.cur, State.setCur_cur, hc2]

/-! ### The stack (10_state.md R31) -/

/-- A push is a write cycle at $0100 + SP, then SP - 1. -/
theorem push_ready {s : State} (v : Byte) (h : Ready s) :
    ∃ u, memWrite (stackAddr s) v s = .next u ∧ push v s = .next (u.setSp (s.sp - 1)) ∧
      Wrote (stackAddr s) v s u ∧ u.cur = { s.cur with cycles := s.cur.cycles + 1 } := by
  obtain ⟨u, e, w, hcur⟩ := memWrite_ready (stackAddr s) v h
  exact ⟨u, e, by simp only [push, e, andThen_next, w.cpu.sp], w, hcur⟩

/-- A pull is a read cycle at $0100 + SP + 1, SP growing with it. -/
theorem pull_ready {s : State} (h : Ready s) :
    ∃ v t, memRead (word 0x01 (s.sp + 1)) s = .next (v, t) ∧ pull s = .next (v, t.setSp (s.sp + 1)) ∧
      Ran 1 (s.setSp (s.sp + 1)) (t.setSp (s.sp + 1)) := by
  obtain ⟨_, t, -, e, -, r⟩ := memRead_ready (word 0x01 (s.sp + 1)) h
  exact ⟨_, t, e, by simp only [pull, e, andThen_next], r.op (setSp_op _)⟩

/-- An implied instruction completes: one dummy read of PC, then its operation. -/
theorem impliedOp_ready {f : State → State} {s : State} (hf : CpuOp f) (h : Ready s) :
    ∃ t, dummyRead s.pc s = .next t ∧ impliedOp f s = .next (f t) ∧ Ran 1 (f s) (f t) := by
  obtain ⟨t, e, r⟩ := dummyRead_ready s.pc h
  exact ⟨t, e, by simp only [impliedOp, e, andThen_next], r.op hf⟩

end Sys2Proof.Machine
end

