-- ==== Sys2Proof/Laws/Fetch.lean ====
section
/-! SUPPORT. Fetching, interrupt entry and return, and what every piece of a step keeps whatever else it does. -/

namespace Sys2Proof.Machine

/-- What every piece of a step keeps: the machine is between cycles, the clocks ran together, the ranges and the
form of memory hold, and the interrupt lines, the fault and the last result are as before. -/
structure Lived (s t : State) : Prop where
  ready      : Ready t
  counted    : Counted s t
  chips      : ChipsOk s → ChipsOk t
  mem        : s.mem.wf = true → t.mem.wf = true
  irqLine    : t.irqLine = s.irqLine
  nmiLine    : t.nmiLine = s.nmiLine
  nmiPending : t.nmiPending = s.nmiPending
  fault      : t.fault = s.fault
  last       : t.last = s.last

theorem Lived.refl {s : State} (h : Ready s) : Lived s s := ⟨h, Counted.refl s, id, id, rfl, rfl, rfl, rfl, rfl⟩

theorem Lived.trans {s t u : State} (h : Lived s t) (k : Lived t u) : Lived s u where
  ready := k.ready
  counted := h.counted.trans k.counted
  chips := fun e => k.chips (h.chips e)
  mem := fun e => k.mem (h.mem e)
  irqLine := k.irqLine.trans h.irqLine
  nmiLine := k.nmiLine.trans h.nmiLine
  nmiPending := k.nmiPending.trans h.nmiPending
  fault := k.fault.trans h.fault
  last := k.last.trans h.last

theorem Ran.lived {n : Nat} {s t : State} (h : Ran n s t) : Lived s t where
  ready := h.ready
  counted := h.counted
  chips := h.chips
  mem := fun e => by rw [h.frame.mem]; exact e
  irqLine := h.frame.cpu.irqLine
  nmiLine := h.frame.cpu.nmiLine
  nmiPending := h.frame.cpu.nmiPending
  fault := h.frame.cpu.fault
  last := h.frame.cpu.last

theorem Wrote.lived {addr : Word} {v : Byte} {s t : State} (h : Wrote addr v s t) : Lived s t where
  ready := h.ready
  counted := h.counted
  chips := h.chips
  mem := fun e => by rw [h.mem]; exact memAfterWrite_wf e
  irqLine := h.cpu.irqLine
  nmiLine := h.cpu.nmiLine
  nmiPending := h.cpu.nmiPending
  fault := h.cpu.fault
  last := h.cpu.last

/-! ### Updates of the CPU that a piece of a step makes -/

section updates
variable {s : State} (h : Ready s)
include h

theorem setA_lived (v : Byte) : Lived s (s.setA v) := ⟨h, ⟨0, rfl, rfl, rfl⟩, id, id, rfl, rfl, rfl, rfl, rfl⟩
theorem setX_lived (v : Byte) : Lived s (s.setX v) := ⟨h, ⟨0, rfl, rfl, rfl⟩, id, id, rfl, rfl, rfl, rfl, rfl⟩
theorem setY_lived (v : Byte) : Lived s (s.setY v) := ⟨h, ⟨0, rfl, rfl, rfl⟩, id, id, rfl, rfl, rfl, rfl, rfl⟩
theorem setSp_lived (v : Byte) : Lived s (s.setSp v) := ⟨h, ⟨0, rfl, rfl, rfl⟩, id, id, rfl, rfl, rfl, rfl, rfl⟩
theorem setPc_lived (v : Word) : Lived s (s.setPc v) := ⟨h, ⟨0, rfl, rfl, rfl⟩, id, id, rfl, rfl, rfl, rfl, rfl⟩
theorem setP_lived (v : Status) : Lived s (s.setP v) := ⟨h, ⟨0, rfl, rfl, rfl⟩, id, id, rfl, rfl, rfl, rfl, rfl⟩
theorem setCur_lived (c : LastResult) : Lived s (s.setCur c) := ⟨h, ⟨0, rfl, rfl, rfl⟩, id, id, rfl, rfl, rfl, rfl, rfl⟩
theorem incPc_lived : Lived s s.incPc := ⟨h, ⟨0, rfl, rfl, rfl⟩, id, id, rfl, rfl, rfl, rfl, rfl⟩
theorem nextDraw_lived : Lived s s.nextDraw := ⟨h, ⟨0, rfl, rfl, rfl⟩, id, id, rfl, rfl, rfl, rfl, rfl⟩

end updates

/-! ### Cycles -/

theorem memRead_lived {s : State} (addr : Word) (h : Ready s) : ∃ v t, memRead addr s = .next (v, t) ∧ Lived s t :=
  let ⟨_, t, _, e, _, r⟩ := memRead_ready addr h
  ⟨_, t, e, r.lived⟩

theorem dummyRead_lived {s : State} (addr : Word) (h : Ready s) : ∃ t, dummyRead addr s = .next t ∧ Lived s t :=
  let ⟨t, e, r⟩ := dummyRead_ready addr h
  ⟨t, e, r.lived⟩

theorem push_lived {s : State} (v : Byte) (h : Ready s) : ∃ t, push v s = .next t ∧ Lived s t :=
  let ⟨_, _, e, w, _⟩ := push_ready v h
  ⟨_, e, w.lived.trans (setSp_lived w.ready _)⟩

theorem pull_lived {s : State} (h : Ready s) : ∃ v t, pull s = .next (v, t) ∧ Lived s t :=
  let ⟨v, _, _, e, r⟩ := pull_ready h
  ⟨v, _, e, (setSp_lived h _).trans r.lived⟩

theorem stall_lived {s : State} (h : Ready s) : ∃ t, stall s = .next t ∧ Lived s t :=
  let ⟨t, e, r, _⟩ := stall_ready h
  ⟨t, e, r.lived⟩

/-- The interrupt sequence always completes (46_control.md R262, 60_exceptions.md R315). -/
theorem takeInterrupt_lived {s : State} (vec : Word) (b : Bool) (h : Ready s) :
    ∃ t, takeInterrupt vec b s = .next t ∧ Lived s t := by
  obtain ⟨s1, e1, l1⟩ := push_lived (hiByte s.pc) h
  obtain ⟨s2, e2, l2⟩ := push_lived (loByte s1.pc) l1.ready
  obtain ⟨s3, e3, l3⟩ := push_lived (s2.p.pushed b) l2.ready
  obtain ⟨lo, s4, e4, l4⟩ := memRead_lived vec l3.ready
  have l5 := setP_lived l4.ready { s4.p with i := true }
  obtain ⟨hi, s6, e6, l6⟩ := memRead_lived (vec + 1) l5.ready
  refine ⟨s6.setPc (word hi lo), by simp only [takeInterrupt, e1, e2, e3, e4, e6, andThen_next], ?_⟩
  exact (((((l1.trans l2).trans l3).trans l4).trans l5).trans l6).trans (setPc_lived l6.ready _)

theorem interruptEntry_lived {s : State} (vec : Word) (h : Ready s) :
    ∃ t, interruptEntry vec s = .next t ∧ Lived s t := by
  obtain ⟨s1, e1, l1⟩ := dummyRead_lived s.pc h
  obtain ⟨s2, e2, l2⟩ := dummyRead_lived s1.pc l1.ready
  obtain ⟨s3, e3, l3⟩ := takeInterrupt_lived vec false l2.ready
  exact ⟨s3, by simp only [interruptEntry, e1, e2, e3, andThen_next], (l1.trans l2).trans l3⟩

theorem returnFromInterrupt_lived {s : State} (h : Ready s) :
    ∃ t, returnFromInterrupt s = .next t ∧ Lived s t := by
  obtain ⟨p, s1, e1, l1⟩ := pull_lived h
  have l2 := setP_lived l1.ready (.pulled p)
  obtain ⟨lo, s3, e3, l3⟩ := pull_lived l2.ready
  obtain ⟨hi, s4, e4, l4⟩ := pull_lived l3.ready
  refine ⟨s4.setPc (word hi lo), by simp only [returnFromInterrupt, e1, e3, e4, andThen_next], ?_⟩
  exact (((l1.trans l2).trans l3).trans l4).trans (setPc_lived l4.ready _)

/-! ### Fetching (40_addressing.md R140) -/

theorem incPc_op : CpuOp State.incPc where
  same := fun s t h => ⟨h.a, h.x, h.y, h.sp, by simp only [State.incPc_pc, h.pc], h.p, h.irqLine, h.nmiLine,
    h.nmiPending, h.fault, by simp only [State.incPc_reports, h.pc, h.reports], h.last⟩
  cur := fun _ => rfl
  mem := fun _ => rfl
  tia := fun _ => rfl
  riot := fun _ => rfl
  cart := fun _ => rfl
  count := fun _ => ⟨rfl, rfl, rfl⟩

/-- The fetch of a byte: a read cycle at PC, then PC + 1. -/
theorem fetchByte_ready {s : State} (h : Ready s) :
    ∃ s1 t, stall s = .next s1 ∧ fetchByte s = .next (readValue (busAddr s.pc) s1, t) ∧ Ran 0 s s1 ∧
      Ran 1 s.incPc t := by
  obtain ⟨s1, t, e1, e, r1, r⟩ := memRead_ready s.pc h
  exact ⟨s1, t.incPc, e1, by simp only [fetchByte, e, andThen_next], r1, r.op incPc_op⟩

/-- The fetch of a byte of plain memory. -/
theorem fetchByte_code {s : State} {b : Byte} (h : Ready s) (hb : plainByte s s.pc = some b) :
    ∃ t, fetchByte s = .next (b, t) ∧ Ran 1 s.incPc t := by
  obtain ⟨t, e, r⟩ := memRead_code h hb
  exact ⟨t.incPc, by simp only [fetchByte, e, andThen_next], r.op incPc_op⟩

theorem fetchByte_lived {s : State} (h : Ready s) : ∃ v t, fetchByte s = .next (v, t) ∧ Lived s t := by
  obtain ⟨_, t, -, e, -, r⟩ := fetchByte_ready h
  exact ⟨_, t, e, (incPc_lived h).trans r.lived⟩

theorem fetchOpcode_lived {s : State} (h : Ready s) : ∃ op t, fetchOpcode s = .next (op, t) ∧ Lived s t := by
  have l0 : Lived s (startRecord s) := setCur_lived h _
  obtain ⟨op, t, e, l⟩ := fetchByte_lived l0.ready
  refine ⟨op, t.setCur { t.cur with opcode := op, defn := some (rowOf op) }, ?_,
    (l0.trans l).trans (setCur_lived l.ready _)⟩
  simp only [fetchOpcode, e, andThen_next]

theorem fetchOperands_lived {s : State} (sh : Shape) (h : Ready s) :
    ∃ i t, fetchOperands sh s = .next (i, t) ∧ Lived s t := by
  cases sh with
  | bare i => exact ⟨i, s, rfl, Lived.refl h⟩
  | byte f =>
    obtain ⟨b1, t, e, l⟩ := fetchByte_lived h
    exact ⟨f b1, t, by simp only [fetchOperands, e, andThen_next], l⟩
  | word f =>
    obtain ⟨b1, t, e, l⟩ := fetchByte_lived h
    obtain ⟨b2, u, e2, l2⟩ := fetchByte_lived l.ready
    exact ⟨f (word b2 b1), u, by simp only [fetchOperands, e, e2, andThen_next], l.trans l2⟩
  | jump f =>
    obtain ⟨b1, t, e, l⟩ := fetchByte_lived h
    obtain ⟨b2, u, e2, l2⟩ := memRead_lived t.pc l.ready
    exact ⟨f (word b2 b1), u, by simp only [fetchOperands, e, e2, andThen_next], l.trans l2⟩
  | call f =>
    obtain ⟨b1, t, e, l⟩ := fetchByte_lived h
    exact ⟨f (word (busRead t.pc t).1 b1), t, by simp only [fetchOperands, e, andThen_next], l⟩

/-- Fetching an instruction always completes. -/
theorem fetchInstr_lived {s : State} (h : Ready s) : ∃ i t, fetchInstr s = .next (i, t) ∧ Lived s t := by
  obtain ⟨op, t, e, l⟩ := fetchOpcode_lived h
  obtain ⟨i, u, e2, l2⟩ := fetchOperands_lived (entryOf op).shape l.ready
  exact ⟨i, u, by simp only [fetchInstr, e, e2, andThen_next], l.trans l2⟩

end Sys2Proof.Machine
end

