-- ==== Sys2Proof/Tests/Slice0.lean ====
section
/-! SUPPORT. Tests. Every expected result is an example or a table of the spec, named in the test's comment; a test
runs one step on a small state. After them, for each obligation with hypotheses, a witness that meets them. -/

namespace Sys2Proof.Tests

open Sys2Proof.Machine

/-! ### Well-formedness and decoding -/

/-- 30_encoding.md R118: $02 is not admitted. -/
theorem test_wellFormed_refuses_invalid : Instr.invalid02.wellFormed = false ∧ Instr.invalidEB.wellFormed = false ∧
    (Instr.ldaImm 0x42).wellFormed = true := by decide

/-- Memory's form refuses cells out of order, a repeated address, an unlisted value, and an address that is neither
RAM nor cartridge. -/
theorem test_memory_wf_refuses : Memory.wf [(0x81, 1), (0x80, 1)] = false ∧ Memory.wf [(0x80, 1), (0x80, 2)] = false ∧
    Memory.wf [(0x80, 0)] = false ∧ Memory.wf [(0x7F, 1)] = false ∧ Memory.wf [(0x80, 1), (0x1000, 2)] = true := by
  decide

/-- 41_load_store.md R180 to R185: one word of each mnemonic, from its rule's encodings. -/
theorem test_decode_loadStore :
    decode [0xA9, 0x42] = .ok (.ldaImm 0x42, []) ∧ decode [0xBD, 0x34, 0x12] = .ok (.ldaAbsX 0x1234, []) ∧
    decode [0xB6, 0x10] = .ok (.ldxZpY 0x10, []) ∧ decode [0xBC, 0x00, 0xF0] = .ok (.ldyAbsX 0xF000, []) ∧
    decode [0x91, 0x80] = .ok (.staIzY 0x80, []) ∧ decode [0x86, 0x81] = .ok (.stxZp 0x81, []) ∧
    decode [0x8C, 0x80, 0x02] = .ok (.styAbs 0x0280, []) := by decide

/-- 42_transfer_stack.md R190 to R199. -/
theorem test_decode_transferStack :
    decode [0xAA] = .ok (.tax, []) ∧ decode [0xBA] = .ok (.tsx, []) ∧ decode [0x9A] = .ok (.txs, []) ∧
    decode [0x48] = .ok (.pha, []) ∧ decode [0x28] = .ok (.plp, []) := by decide

/-- 43_arith_logic.md R210 to R224. -/
theorem test_decode_arithLogic :
    decode [0x69, 0x50] = .ok (.adcImm 0x50, []) ∧ decode [0xE9, 0x03] = .ok (.sbcImm 0x03, []) ∧
    decode [0x31, 0x80] = .ok (.andIzY 0x80, []) ∧ decode [0x2C, 0x00, 0x10] = .ok (.bitAbs 0x1000, []) ∧
    decode [0xC1, 0x80] = .ok (.cmpIzX 0x80, []) ∧ decode [0xFE, 0x80, 0x00] = .ok (.incAbsX 0x0080, []) ∧
    decode [0x88] = .ok (.dey, []) := by decide

/-- 44_shift_rotate.md R230 to R233, 45_flags_nop.md R240 to R247. -/
theorem test_decode_shiftsFlags :
    decode [0x0A] = .ok (.aslAcc, []) ∧ decode [0x5E, 0x80, 0x00] = .ok (.lsrAbsX 0x0080, []) ∧
    decode [0x26, 0x80] = .ok (.rolZp 0x80, []) ∧ decode [0x6A] = .ok (.rorAcc, []) ∧
    decode [0x58] = .ok (.cli, []) ∧ decode [0xEA] = .ok (.nop, []) := by decide

/-- 46_control.md R250 to R263. -/
theorem test_decode_control :
    decode [0x90, 0xFE] = .ok (.bcc 0xFE, []) ∧ decode [0x6C, 0xFF, 0x10] = .ok (.jmpInd 0x10FF, []) ∧
    decode [0x20, 0x00, 0xF1] = .ok (.jsr 0xF100, []) ∧ decode [0x60] = .ok (.rts, []) ∧
    decode [0x00] = .ok (.brk, []) ∧ decode [0x40] = .ok (.rti, []) := by decide

/-- 47_undocumented.md R275 to R286. -/
theorem test_decode_undocumented :
    decode [0xA7, 0x80] = .ok (.laxZp 0x80, []) ∧ decode [0x87, 0x80] = .ok (.saxZp 0x80, []) ∧
    decode [0xDB, 0x00, 0xF0] = .ok (.dcpAbsY 0xF000, []) ∧ decode [0xE7, 0x80] = .ok (.iscZp 0x80, []) ∧
    decode [0x2B, 0x80] = .ok (.ancImm2B 0x80, []) ∧ decode [0x1C, 0xFF, 0xF0] = .ok (.nopAbsX1C 0xF0FF, []) ∧
    decode [0xEB] = .ok (.invalidEB, []) := by decide

/-- The table's numbering of bits: the first operand byte is bits 15 to 8, and missing bytes are 0. -/
theorem test_decodeTableWord :
    decodeTableWord 24 0x10FF6C = some (.jmpInd 0x10FF) ∧ decodeTableWord 16 0x42A9 = some (.ldaImm 0x42) ∧
    decodeTableWord 8 0xAD = some (.ldaAbs 0) := by decide

/-- A short list is refused by name. -/
theorem test_decode_refuses : decode [] = .error .noBytes ∧ decode [0xAD, 0x00] = .error (.missingOperand 0xAD) := by
  decide

/-! ### One step -/

/-- The state after reset with an instruction's bytes, first byte lowest, at an address. -/
def load (pc : Word) (w : Nat) : State := { State.reset with pc := pc }.withFetchWord 24 w

/-- A byte of RAM or of the cartridge, by its canonical address. -/
def poke (s : State) (k : Nat) (v : Byte) : State := s.setMem (Memory.write s.mem k v)

/-- Whether an outcome is a next state that passes a check. -/
def after (o : Out) (check : State → Bool) : Bool :=
  match o with
  | .next t => check t
  | _ => false

/-- A byte of memory. -/
def byteAt (s : State) (k : Nat) : Byte := Memory.read s.mem k

/-- R180: A9 42. -/
theorem test_lda : after (step (load 0xF000 0x42A9)) (fun t =>
    t.a = 0x42 && t.p.n = false && t.p.z = false && t.last.cycles = 2 && t.pc = 0xF002) = true := by decide

/-- R181: A2 FF. -/
theorem test_ldx : after (step (load 0xF000 0xFFA2)) (fun t => t.x = 0xFF && t.p.n && !t.p.z) = true := by decide

/-- R182: A0 00. -/
theorem test_ldy : after (step ((load 0xF000 0x00A0).setY 7)) (fun t => t.y = 0 && t.p.z && !t.p.n) = true := by
  decide

/-- R144: LDA $F0,X with X = $20 reads $0010, a TIA register; with X = $90 it reads RAM $80. -/
theorem test_zeroPageX_wraps : after (step (poke ((load 0xF000 0xF0B5).setX 0x90) 0x80 0x5A)) (fun t =>
    t.a = 0x5A && t.last.ea = some 0x0080 && t.last.cycles = 4) = true := by decide

/-- R183: 85 80 with A = $42. -/
theorem test_sta : after (step ((load 0xF000 0x8085).setA 0x42)) (fun t =>
    byteAt t 0x80 = 0x42 && t.last.cycles = 3) = true := by decide

/-- R184: 86 81 with X = 7. -/
theorem test_stx : after (step ((load 0xF000 0x8186).setX 7)) (fun t => byteAt t 0x81 = 7) = true := by decide

/-- R185: 8C 80 02 with Y = 3 writes SWCHA's latch. -/
theorem test_sty : after (step ((load 0xF000 0x02808C).setY 3)) (fun t => t.riot.ora = 3) = true := by decide

/-- R190, R191: TAX of $80, TAY of 5. -/
theorem test_tax_tay :
    after (step ((load 0xF000 0xAA).setA 0x80)) (fun t => t.x = 0x80 && t.p.n && !t.p.z) = true ∧
    after (step ((load 0xF000 0xA8).setA 5)) (fun t => t.y = 5 && !t.p.n && !t.p.z) = true := by decide

/-- R192, R193: TXA of 0, TYA of $FF. -/
theorem test_txa_tya :
    after (step ((load 0xF000 0x8A).setA 9)) (fun t => t.a = 0 && t.p.z) = true ∧
    after (step ((load 0xF000 0x98).setY 0xFF)) (fun t => t.a = 0xFF && t.p.n) = true := by decide

/-- R194, R195: TSX after reset; TXS writes no flag. -/
theorem test_tsx_txs :
    after (step (load 0xF000 0xBA)) (fun t => t.x = 0xFD && t.p.n && !t.p.z) = true ∧
    after (step ((load 0xF000 0x9A).setX 0xFF)) (fun t => t.sp = 0xFF && t.p = State.reset.p) = true := by decide

/-- R196: SP = $FD, A = $11. -/
theorem test_pha : after (step ((load 0xF000 0x48).setA 0x11)) (fun t =>
    byteAt t 0xFD = 0x11 && t.sp = 0xFC && t.last.cycles = 3) = true := by decide

/-- R197: N = 1, the other flags 0, pushes $B0. -/
theorem test_php : after (step ((load 0xF000 0x08).setP (flagsOf 0x80))) (fun t => byteAt t 0xFD = 0xB0) = true := by
  decide

/-- R198: SP = $FC, RAM $FD = 0. -/
theorem test_pla : after (step (((load 0xF000 0x68).setSp 0xFC).setA 9)) (fun t =>
    t.a = 0 && t.p.z && t.sp = 0xFD && t.last.cycles = 4) = true := by decide

/-- R199: a pulled $FF sets all seven flags. -/
theorem test_plp : after (step (poke ((load 0xF000 0x28).setSp 0xFC) 0xFD 0xFF)) (fun t =>
    t.p = ⟨true, true, true, true, true, true, true⟩) = true := by decide

/-- R210: C = 0, A = $50, 69 50. -/
theorem test_adc : after (step ((load 0xF000 0x5069).setA 0x50)) (fun t =>
    t.a = 0xA0 && t.p.n && t.p.v && !t.p.z && !t.p.c) = true := by decide

/-- R210, decimal: $99 + $01. -/
theorem test_adc_decimal : after (step (((load 0xF000 0x0169).setA 0x99).setP (flagsOf 0x08))) (fun t =>
    t.a = 0 && t.p.c && !t.p.z && t.p.n) = true := by decide

/-- R211: C = 1, A = 5, E9 03. -/
theorem test_sbc : after (step (((load 0xF000 0x03E9).setA 5).setP (flagsOf 0x01))) (fun t =>
    t.a = 2 && t.p.c && !t.p.n && !t.p.z && !t.p.v) = true := by decide

/-- R212, R213, R214. -/
theorem test_and_ora_eor :
    after (step ((load 0xF000 0x3C29).setA 0xF0)) (fun t => t.a = 0x30 && !t.p.n && !t.p.z) = true ∧
    after (step ((load 0xF000 0x8009).setA 0x01)) (fun t => t.a = 0x81 && t.p.n) = true ∧
    after (step ((load 0xF000 0x0F49).setA 0xFF)) (fun t => t.a = 0xF0 && t.p.n) = true := by decide

/-- R215: A = 1, M = $C0. -/
theorem test_bit : after (step (poke ((load 0xF000 0x8024).setA 0x01) 0x80 0xC0)) (fun t =>
    t.p.n && t.p.v && t.p.z && t.a = 0x01) = true := by decide

/-- R216, R217, R218. -/
theorem test_compares :
    after (step ((load 0xF000 0x20C9).setA 0x10)) (fun t => !t.p.c && !t.p.z && t.p.n) = true ∧
    after (step ((load 0xF000 0x05E0).setX 5)) (fun t => t.p.z && t.p.c && !t.p.n) = true ∧
    after (step ((load 0xF000 0x00C0).setY 0xFF)) (fun t => t.p.c && !t.p.z && t.p.n) = true := by decide

/-- R219, R220. -/
theorem test_inc_dec :
    after (step (poke (load 0xF000 0x80E6) 0x80 0x7F)) (fun t =>
      byteAt t 0x80 = 0x80 && t.p.n && t.last.cycles = 5) = true ∧
    after (step (poke (load 0xF000 0x80C6) 0x80 0x01)) (fun t => byteAt t 0x80 = 0 && t.p.z) = true := by decide

/-- R221 to R224. -/
theorem test_counts :
    after (step ((load 0xF000 0xE8).setX 0xFF)) (fun t => t.x = 0 && t.p.z && !t.p.n) = true ∧
    after (step ((load 0xF000 0xC8).setY 0x7F)) (fun t => t.y = 0x80 && t.p.n) = true ∧
    after (step ((load 0xF000 0xCA).setX 1)) (fun t => t.x = 0 && t.p.z) = true ∧
    after (step (load 0xF000 0x88)) (fun t => t.y = 0xFF && t.p.n && !t.p.z) = true := by decide

/-- R230 to R233. -/
theorem test_shifts_acc :
    after (step ((load 0xF000 0x0A).setA 0x41)) (fun t => t.a = 0x82 && !t.p.c && t.p.n) = true ∧
    after (step ((load 0xF000 0x4A).setA 0x03)) (fun t => t.a = 0x01 && t.p.c) = true ∧
    after (step (((load 0xF000 0x2A).setA 0x80).setP (flagsOf 1))) (fun t => t.a = 0x01 && t.p.c && !t.p.z) = true ∧
    after (step (((load 0xF000 0x6A).setA 0x02).setP (flagsOf 1))) (fun t => t.a = 0x81 && !t.p.c && t.p.n) = true := by
  decide

/-- R230 and R160: ASL of RAM $80 = $80 gives 0 with C and Z, in five cycles. -/
theorem test_asl_memory : after (step (poke (load 0xF000 0x8006) 0x80 0x80)) (fun t =>
    byteAt t 0x80 = 0 && t.p.c && t.p.z && t.last.cycles = 5) = true := by decide

/-- R240 to R246. -/
theorem test_flags :
    after (step ((load 0xF000 0x18).setP (flagsOf 0xFF))) (fun t => t.p = flagsOf 0xFE) = true ∧
    after (step ((load 0xF000 0x38).setP (flagsOf 0x00))) (fun t => t.p = flagsOf 0x01) = true ∧
    after (step ((load 0xF000 0x58).setP (flagsOf 0xFF))) (fun t => t.p = flagsOf 0xFB) = true ∧
    after (step ((load 0xF000 0x78).setP (flagsOf 0x00))) (fun t => t.p = flagsOf 0x04) = true ∧
    after (step ((load 0xF000 0xD8).setP (flagsOf 0xFF))) (fun t => t.p = flagsOf 0xF7) = true ∧
    after (step ((load 0xF000 0xF8).setP (flagsOf 0x00))) (fun t => t.p = flagsOf 0x08) = true ∧
    after (step ((load 0xF000 0xB8).setP (flagsOf 0xFF))) (fun t => t.p = flagsOf 0xBF) = true := by decide

/-- R247: EA advances PC by 1 in two cycles; 10_state.md R32: from $FFFF to $0000 it is reported. -/
theorem test_nop :
    after (step (load 0xF000 0xEA)) (fun t => t.pc = 0xF001 && t.last.cycles = 2 && t.reports = []) = true := by decide

/-- R285: 1C FF F0 with X = 1 takes five cycles. -/
theorem test_nop_crossing : after (step ((load 0xF000 0xF0FF1C).setX 1)) (fun t =>
    t.last.cycles = 5 && t.last.pageCrossed && t.last.ea = some 0xF100) = true := by decide

/-- R251, R252: at $F010 with C = 0, 90 FE loops in three cycles, B0 10 is not taken. -/
theorem test_bcc_bcs :
    after (step (load 0xF010 0xFE90)) (fun t => t.pc = 0xF010 && t.last.cycles = 3) = true ∧
    after (step (load 0xF010 0x10B0)) (fun t => t.pc = 0xF012 && t.last.cycles = 2) = true := by decide

/-- R253, R254: F0 05 at $F0FD with Z = 1; D0 FC at $F100 with Z = 0: across a page, four cycles. -/
theorem test_beq_bne :
    after (step ((load 0xF0FD 0x05F0).setP (flagsOf 0x02))) (fun t =>
      t.pc = 0xF104 && t.last.cycles = 4 && t.last.pageCrossed) = true ∧
    after (step (load 0xF100 0xFCD0)) (fun t => t.pc = 0xF0FE && t.last.cycles = 4) = true := by decide

/-- R255 to R258. -/
theorem test_bmi_bpl_bvc_bvs :
    after (step ((load 0xF000 0x0230).setP (flagsOf 0x80))) (fun t => t.pc = 0xF004 && t.last.cycles = 3) = true ∧
    after (step ((load 0xF000 0x0210).setP (flagsOf 0x80))) (fun t => t.pc = 0xF002 && t.last.cycles = 2) = true ∧
    after (step (load 0xF000 0x8050)) (fun t => t.pc = 0xEF82 && t.last.cycles = 4) = true ∧
    after (step ((load 0xF000 0x7F70).setP (flagsOf 0x40))) (fun t => t.pc = 0xF081 && t.last.cycles = 3) = true := by
  decide

/-- R259: 4C 00 F0; 6C FF 10 with $10FF = $34, $1000 = $12, $1100 = $56. -/
theorem test_jmp :
    after (step (load 0xF100 0xF0004C)) (fun t => t.pc = 0xF000 && t.last.cycles = 3) = true ∧
    after (step (poke (poke (poke (load 0xF200 0x10FF6C) 0x10FF 0x34) 0x1000 0x12) 0x1100 0x56)) (fun t =>
      t.pc = 0x1234 && t.last.cycles = 5 && t.last.bug = .jmpIndirectPageWrap) = true := by decide

/-- R260: 20 00 F1 at $F005, SP = $FD. -/
theorem test_jsr : after (step (load 0xF005 0xF10020)) (fun t =>
    byteAt t 0xFD = 0xF0 && byteAt t 0xFC = 0x07 && t.sp = 0xFB && t.pc = 0xF100 && t.last.cycles = 6) = true := by
  decide

/-- R261: SP = $FB, RAM $FC = $07, $FD = $F0. -/
theorem test_rts : after (step (poke (poke ((load 0xF000 0x60).setSp 0xFB) 0xFC 0x07) 0xFD 0xF0)) (fun t =>
    t.pc = 0xF008 && t.sp = 0xFD && t.last.cycles = 6) = true := by decide

/-- R262: BRK at $F010, vector $F200. -/
theorem test_brk : after (step (poke (load 0xF010 0x00) 0x1FFF 0xF2)) (fun t =>
    byteAt t 0xFD = 0xF0 && byteAt t 0xFC = 0x12 && byteAt t 0xFB = 0x34 && t.sp = 0xFA && t.pc = 0xF200 &&
      t.last.cycles = 7) = true := by decide

/-- R263: RTI after that BRK. -/
theorem test_rti :
    after (step (poke (poke (poke ((load 0xF200 0x40).setSp 0xFA) 0xFD 0xF0) 0xFC 0x12) 0xFB 0x34)) (fun t =>
      t.sp = 0xFD && t.pc = 0xF012 && t.p.i && t.p.b && t.last.cycles = 6) = true := by decide

/-- R315: an IRQ with I = 0 at $F010 pushes P with B' = 0 and does not run the instruction. -/
theorem test_irq :
    after (step { (poke ((load 0xF010 0xE8).setP (flagsOf 0x10)) 0x1FFF 0xF2) with irqLine := true }) (fun t =>
      byteAt t 0xFD = 0xF0 && byteAt t 0xFC = 0x10 && byteAt t 0xFB = 0x20 && t.pc = 0xF200 && t.p.i && t.x = 0 &&
        t.stepCycles = 7) = true := by decide

/-- R275, R276. -/
theorem test_lax_sax :
    after (step (poke (load 0xF000 0x80A7) 0x80 0xF0)) (fun t =>
      t.a = 0xF0 && t.x = 0xF0 && t.p.n && !t.p.z && t.last.cycles = 3) = true ∧
    after (step (((load 0xF000 0x8087).setA 0xF0).setX 0x3C)) (fun t => byteAt t 0x80 = 0x30) = true := by decide

/-- R277, R278, R279. -/
theorem test_dcp_isc_slo :
    after (step (poke ((load 0xF000 0x80C7).setA 0x05) 0x80 0x06)) (fun t =>
      byteAt t 0x80 = 5 && t.p.z && t.p.c && !t.p.n && t.last.cycles = 5) = true ∧
    after (step (poke (((load 0xF000 0x80E7).setA 0x10).setP (flagsOf 1)) 0x80 0x04)) (fun t =>
      byteAt t 0x80 = 5 && t.a = 0x0B && t.p.c) = true ∧
    after (step (poke ((load 0xF000 0x8007).setA 0x01) 0x80 0x81)) (fun t =>
      byteAt t 0x80 = 2 && t.a = 3 && t.p.c) = true := by decide

/-- R280, R281, R282, R284. -/
theorem test_undocumented_immediates :
    after (step ((load 0xF000 0x800B).setA 0xFF)) (fun t => t.a = 0x80 && t.p.n && t.p.c) = true ∧
    after (step ((load 0xF000 0x034B).setA 0xFF)) (fun t => t.a = 0x01 && t.p.c && !t.p.n) = true ∧
    after (step ((load 0xF000 0xFF6B).setA 0xC0)) (fun t =>
      t.a = 0x60 && !t.p.n && !t.p.z && t.p.c && !t.p.v) = true ∧
    after (step (((load 0xF000 0x01CB).setA 0xFF).setX 0x10)) (fun t =>
      t.x = 0x0F && t.p.c && !t.p.n && !t.p.z) = true := by decide

/-- R283's corner case, for every byte of the unstable constant: A = $FF, X = $0F, 8B 3C gives $0C. -/
theorem test_xaa : ∀ magic : Byte, xaaResult 0xFF 0x0F 0x3C magic = 0x0C := by
  intro magic
  have h : (0xFF : Byte) ||| magic = 0xFF := BitVec.allOnes_or
  unfold xaaResult
  rw [h]
  decide

/-- 60_exceptions.md R301 and 95_test_vectors.md EX2: an invalid opcode faults with PC one past it. -/
theorem test_invalid :
    (match step (load 0xF000 0x02) with
      | .fault (.invalidOpcode op t) => op = 0x02 && t.pc = 0xF001 && t.cycleCount = 1 && !t.last.final
      | _ => false) = true := by decide

/-- 20_memory.md R83, 63_riot.md R452: STA TIM64T loads the timer with divisor 64, and its first decrement is one
step later. -/
theorem test_timer_write : after (step ((load 0xF000 0x02968D).setA 0x20)) (fun t =>
    t.riot.intim = 0x20 && t.riot.divisor = .d64 && t.riot.prescale = 1) = true := by decide

/-- 61_tia_clock.md R354, R357: STA WSYNC whose write cycle ends at cc 221 is followed by two stall cycles, to cc
227. -/
theorem test_wsync :
    after (step { load 0xF000 0x0285 with tia := { Tia.reset with hsync := 53, pclk := 2 } }) (fun t =>
      t.tia.cc = 227 && t.tia.rdy && t.stepCycles = 5 && t.last.cycles = 3) = true := by decide

/-- 62_tia_objects.md R386, R420: PF1 = $FF lights display indices 4 to 11. -/
theorem test_playfield : buildPlayfield 0x00 0xFF 0x00 = 0x00FF0 ∧ buildPlayfield 0x10 0x80 0x01 = 0x01011 := by
  decide

/-- 62_tia_objects.md R380, R386, 10_state.md R50: a PF0 write of $A5 stores its bits 7 to 4, display indices 3 to 0
of the pattern, and the last value written is $A5; a CTRLPF write of $FF stores all of bits 5 to 0 but bit 3. -/
theorem test_pf0_ctrlpf :
    after (step ((load 0xF000 0x0D85).setA 0xA5)) (fun t => t.tia.pf0 = 0xA0 && t.tia.pf0Last = 0xA5) = true ∧
    buildPlayfield 0xA5 0 0 = 0x0000A ∧
    after (step ((load 0xF000 0x0A85).setA 0xFF)) (fun t => t.tia.ctrlpf = 0x37 && t.tia.ctrlpfLast = 0x3F) = true := by
  decide

/-- 70_reset_and_hazards.md R522, R520: attaching a cartridge resets; the old image and RAM are gone. -/
theorem test_attach :
    (attachRom [0xEA] (poke (load 0xF000 0xA9) 0x80 7)).mem = [(0x1000, 0xEA)] ∧
    (attachRom [0xEA] (load 0xF000 0xA9)).sp = 0xFD ∧ (attachRom [0xEA] (load 0xF000 0xA9)).pc = 0 := by decide

/-! ### Witnesses: for each obligation with hypotheses, states and operands that meet them -/

/-- A check that passes shows the next state. -/
theorem next_of_after {o : Out} {check : State → Bool} (h : after o check = true) :
    ∃ t, o = .next t ∧ check t = true := by
  cases o <;> simp_all [after]

/-- With both chips as after reset, the inboxes are empty and so is the delay queue. -/
theorem ready_of {s : State} (ht : s.tia = .reset) (hr : s.riot = .reset) : Ready s := by
  unfold Ready
  rw [ht, hr]
  decide

/-- With both chips as after reset, the invariant is about memory, halted and fault alone. -/
theorem inv_of {s : State} (ht : s.tia = .reset) (hr : s.riot = .reset) (hm : s.mem.wf = true)
    (hh : s.halted = false) (hf : s.fault = none) : Inv s where
  ready := ready_of ht hr
  tia := by
    unfold Tia.Ok
    rw [ht]
    decide
  riot := by
    unfold Riot.Ok
    rw [hr]
    decide
  mem := hm
  rdy := by rw [ht]; rfl
  halted := hh
  noFault := hf

/-- What the statements about steps assume of a state. -/
theorem runs_of {s : State} {check : State → Bool} (ht : s.tia = .reset) (hr : s.riot = .reset)
    (hm : s.mem.wf = true) (hh : s.halted = false) (hf : s.fault = none) (h : after (step s) check = true) :
    Inv s ∧ ∃ t, step s = .next t ∧ check t = true :=
  ⟨inv_of ht hr hm hh hf, next_of_after h⟩

/-- A state with every flag set, A = $99, X = $FF, Y = 1 and the stack pointer at the top of RAM, about to run an
instruction at $F0FE. -/
def start (w : Nat) : State :=
  (((((poke (load 0xF0FE w) 0xFF 0x7F).setA 0x99).setX 0xFF).setY 1).setSp 0xFF).setP (flagsOf 0xFF)

theorem start_ready (w : Nat) : Ready (start w) := ready_of rfl rfl

theorem start_wf : (start 0x42A9).mem.wf = true := by decide

theorem witness_DecodeReadsOnlyEncodings :
    decode [0xA9, 0x42, 0xEA] = .ok (.ldaImm 0x42, [0xEA]) ∧ decode [] = .error .noBytes ∧
    decode [0xAD, 0xFF] = .error (.missingOperand 0xAD) ∧ (Instr.ldaAbs 0).opcode = 0xAD := by decide

/-- The last byte that fits before the end of RAM, an instruction of three bytes, JMP and JSR, and the last address of
all, from which PC wraps. -/
theorem witness_StepRunsTheDecodedInstruction :
    ((load 0x00FD 0xF00020).fault = none ∧ NoInterrupt (load 0x00FD 0xF00020) ∧ Ready (load 0x00FD 0xF00020) ∧
      decode (plainBytes (load 0x00FD 0xF00020)) = .ok (.jsr 0xF000, [])) ∧
    ((start 0xEA).fault = none ∧ NoInterrupt (start 0xEA) ∧ Ready (start 0xEA) ∧
      decode (plainBytes (start 0xEA)) = .ok (.nop, [0, 0])) ∧
    (NoInterrupt (start 0xFFFF6C) ∧ decode (plainBytes (start 0xFFFF6C)) = .ok (.jmpInd 0xFFFF, [])) ∧
    decode (plainBytes (poke { State.reset with pc := 0x00FF } 0xFF 0xEA)) = .ok (.nop, []) ∧
    ((poke { State.reset with pc := 0xFFFF } 0x1FFF 0xEA).fault = none ∧
      NoInterrupt (poke { State.reset with pc := 0xFFFF } 0x1FFF 0xEA) ∧
      Ready (poke { State.reset with pc := 0xFFFF } 0x1FFF 0xEA) ∧
      decode (plainBytes (poke { State.reset with pc := 0xFFFF } 0x1FFF 0xEA)) = .ok (.nop, []) ∧
      pcAdvance .nop = 1) :=
  ⟨⟨rfl, by unfold NoInterrupt; decide, ready_of rfl rfl, by decide⟩,
    ⟨rfl, by unfold NoInterrupt; decide, start_ready _, by decide⟩,
    ⟨by unfold NoInterrupt; decide, by decide⟩, by decide,
    ⟨rfl, by unfold NoInterrupt; decide, ready_of rfl rfl, by decide, by decide⟩⟩

theorem witness_EveryStepKeepsTheInvariant :
    Inv (start 0x42A9) ∧ ∃ t, step (start 0x42A9) = .next t ∧ (t.a == 0x42) = true :=
  runs_of rfl rfl (by decide) rfl rfl (by decide)

/-- Both outcomes of the statement. -/
theorem witness_OnlyInvalidOpcodesFault :
    (Inv (start 0xEA) ∧ ∃ t, step (start 0xEA) = .next t ∧ (t.a == 0x99) = true) ∧
    Inv (start 0x02) ∧ (match step (start 0x02) with | .fault _ => true | _ => false) = true :=
  ⟨runs_of rfl rfl (by decide) rfl rfl (by decide), inv_of rfl rfl (by decide) rfl rfl, by decide⟩

/-- RDY high and low; the host's cartridge, selected at both ends of its window and not; a step of five cycles. -/
theorem witness_CpuCyclesAndTheirTicks :
    (start 0xEA).tia.tags.Nodup ∧ (Ready (start 0xEA) ∧ (start 0xEA).tia.rdy = true) ∧
    (Ready ((start 0xEA).setTia { Tia.reset with rdy := false }) ∧
      ((start 0xEA).setTia { Tia.reset with rdy := false }).tia.rdy = false) ∧
    ((start 0xEA).setCart (.host 1)).cart = .host 1 ∧
    (chipSelect (busAddr 0x1000) = .cart 0 ∧ chipSelect (busAddr 0xFFFF) = .cart 0xFFF) ∧
    (∀ off, chipSelect (busAddr 0x0FFF) ≠ .cart off) ∧
    Inv (start 0x80E6) ∧ ∃ t, step (start 0x80E6) = .next t ∧ (t.stepCycles == 5) = true :=
  ⟨List.nodup_nil, ⟨start_ready _, rfl⟩, ⟨⟨rfl, rfl, List.nodup_nil⟩, rfl⟩, rfl, by decide,
    fun off => by rw [show chipSelect (busAddr 0x0FFF) = .riot by decide]; exact nofun,
    runs_of rfl rfl (by decide) rfl rfl (by decide)⟩

/-- One state for each of the four clauses, and for the last. -/
theorem witness_InterruptCheckOrder :
    { start 0xEA with fault := some (.invalidOpcode 0x02) }.fault = some (.invalidOpcode 0x02) ∧
    ({ start 0xEA with nmiPending := true, irqLine := true }.fault = none ∧
      { start 0xEA with nmiPending := true, irqLine := true }.nmiPending = true) ∧
    ({ State.reset with irqLine := true, p := flagsOf 0xFB }.fault = none ∧
      { State.reset with irqLine := true, p := flagsOf 0xFB }.nmiPending = false ∧
      { State.reset with irqLine := true, p := flagsOf 0xFB }.p.i = false) ∧
    ({ start 0xEA with irqLine := true }.fault = none ∧ { start 0xEA with irqLine := true }.nmiPending = false ∧
      { start 0xEA with irqLine := true }.irqLine = true ∧ { start 0xEA with irqLine := true }.p.i = true) ∧
    Inv { start 0xEA with nmiPending := true } ∧
      ∃ t, step { start 0xEA with nmiPending := true } = .next t ∧ (t.sp == 0xFC) = true :=
  ⟨rfl, ⟨rfl, rfl⟩, ⟨rfl, rfl, rfl⟩, ⟨rfl, rfl, rfl, rfl⟩, runs_of rfl rfl (by decide) rfl rfl (by decide)⟩

/-- A page-sensitive READ with and without a crossing, an STA that crosses, and branches with 0, 1 and 2 cycles
more (40_addressing.md R162). -/
theorem witness_CyclesAreTheTablesCycles :
    NoInterrupt (start 0xF001BD) ∧ NoInterrupt (start 0x7FF0) ∧
    (Inv (start 0xF001BD) ∧ ∃ t, step (start 0xF001BD) = .next t ∧ (t.last.cycles == 5) = true) ∧
    (Inv (start 0xF000BD) ∧ ∃ t, step (start 0xF000BD) = .next t ∧ (t.last.cycles == 4) = true) ∧
    (Inv (start 0xF0019D) ∧ ∃ t, step (start 0xF0019D) = .next t ∧ (t.last.cycles == 5) = true) ∧
    (Inv (start 0x7FD0) ∧ ∃ t, step (start 0x7FD0) = .next t ∧ (t.last.cycles == 2) = true) ∧
    (Inv (start 0x7FF0) ∧ ∃ t, step (start 0x7FF0) = .next t ∧ (t.last.cycles == 3) = true) ∧
    (Inv (start 0x80F0) ∧ ∃ t, step (start 0x80F0) = .next t ∧ (t.last.cycles == 4) = true) ∧
    (Inv (load 0xF0FD 0x0110) ∧ ∃ t, step (load 0xF0FD 0x0110) = .next t ∧ (t.last.cycles == 4) = true) :=
  ⟨by unfold NoInterrupt; decide, by unfold NoInterrupt; decide,
    runs_of rfl rfl (by decide) rfl rfl (by decide), runs_of rfl rfl (by decide) rfl rfl (by decide),
    runs_of rfl rfl (by decide) rfl rfl (by decide), runs_of rfl rfl (by decide) rfl rfl (by decide),
    runs_of rfl rfl (by decide) rfl rfl (by decide), runs_of rfl rfl (by decide) rfl rfl (by decide),
    runs_of rfl rfl (by decide) rfl rfl (by decide)⟩

/-- An immediate, an undocumented opcode, JMP through $xxFF and through $xx00, another documented opcode, and an
interrupt entry. -/
theorem witness_LastResultRecordsTheInstruction :
    (NoInterrupt (start 0xFFA9) ∧ decode (plainBytes (start 0xFFA9)) = .ok (.ldaImm 0xFF, [0]) ∧
      Inv (start 0xFFA9) ∧ ∃ t, step (start 0xFFA9) = .next t ∧ (t.last.operand == some 0xFF) = true) ∧
    (decode (plainBytes (start 0x800B)) = .ok (.ancImm0B 0x80, [0]) ∧ (rowOf 0x0B).documented = false ∧
      Inv (start 0x800B) ∧ ∃ t, step (start 0x800B) = .next t ∧ (t.last.opcode == 0x0B) = true) ∧
    (decode (plainBytes (start 0x10FF6C)) = .ok (.jmpInd 0x10FF, []) ∧ loByte 0x10FF = 0xFF ∧
      (rowOf 0x6C).documented = true ∧
      Inv (start 0x10FF6C) ∧ ∃ t, step (start 0x10FF6C) = .next t ∧ (t.last.bug == .jmpIndirectPageWrap) = true) ∧
    (decode (plainBytes (start 0x10006C)) = .ok (.jmpInd 0x1000, []) ∧ loByte 0x1000 ≠ 0xFF ∧
      Inv (start 0x10006C) ∧ ∃ t, step (start 0x10006C) = .next t ∧ (t.last.bug == .none) = true) ∧
    (¬ NoInterrupt { start 0xEA with nmiPending := true } ∧
      Inv { start 0xEA with nmiPending := true } ∧
        ∃ t, step { start 0xEA with nmiPending := true } = .next t ∧ (t.last == State.reset.last) = true) :=
  ⟨⟨by unfold NoInterrupt; decide, by decide, runs_of rfl rfl (by decide) rfl rfl (by decide)⟩,
    ⟨by decide, by decide, runs_of rfl rfl (by decide) rfl rfl (by decide)⟩,
    ⟨by decide, by decide, by decide, runs_of rfl rfl (by decide) rfl rfl (by decide)⟩,
    ⟨by decide, by decide, runs_of rfl rfl (by decide) rfl rfl (by decide)⟩,
    ⟨by unfold NoInterrupt; decide, runs_of rfl rfl (by decide) rfl rfl (by decide)⟩⟩

/-- A state with the 16 slots of the delay queue occupied, whose next tick decodes HSYNC count 8 in its second colour
clock. -/
def full : State :=
  { start 0xEA with
    tia := { Tia.reset with hsync := 7, dq := List.replicate 16 ⟨9, .cburstOff⟩ } }

/-- 00_scope.md R12, 60_exceptions.md R303: after a DelayQueueFull in the tick of a RAM write, RAM, cycle count and
records are as before the cycle, and the TIA is as it was in its second clock. -/
theorem test_delayQueueFull :
    (match memWrite 0x80 7 full with
      | .fault (.delayQueueFull .hsyncOff t) =>
        byteAt t 0x80 = 0 && t.cycleCount = 0 && t.signals = [] && t.draws = 0 && t.tia.hsync = 8
      | _ => false) = true := by decide

/-- Both inboxes found full, and a full delay queue in a write cycle and in a read cycle. -/
theorem witness_FaultStates :
    Instr.invalid02.wellFormed = false ∧ Inv (start 0xEB) ∧ NoInterrupt (start 0xEB) ∧
    (rowOf 0xEB).mnemonic = .invalid ∧ (∃ s1, fetchOpcode (startStep (start 0xEB)) = .next (0xEB, s1)) ∧
    (chipSelect (busAddr 0x3F) = .tia ∧ { full.tia with inbox := some (0, 0) }.inbox ≠ none) ∧
    (chipSelect (busAddr 0x29F) = .riot ∧ { full.riot with inbox := some (.swcha, 0) }.inbox ≠ none) ∧
    (∃ tag t, memWrite 0x80 7 full = .fault (.delayQueueFull tag t)) ∧
    (∃ s1 tag t, stall full = .next s1 ∧ memRead 0x80 full = .fault (.delayQueueFull tag t)) :=
  ⟨by decide, inv_of rfl rfl (by decide) rfl rfl, by unfold NoInterrupt; decide, by decide, ⟨_, rfl⟩, by decide,
    by decide, ⟨_, _, rfl⟩, ⟨_, _, _, rfl, rfl⟩⟩

theorem witness_LoadsPutTheByteInTheRegister : Ready (start 0) ∧
    (Instr.ldaIzY 0xFF).operand = .source (.memory (.postIndexed 0xFF)) ∧ (Instr.ldaIzY 0xFF).mnemonic = .lda ∧
    (Instr.ldxImm 0xFF).operand = .source (.immediate 0xFF) ∧ (Instr.ldxImm 0xFF).mnemonic = .ldx ∧
    (Instr.ldyAbsX 0xFFFF).operand = .source (.memory (.absoluteX 0xFFFF)) ∧
      (Instr.ldyAbsX 0xFFFF).mnemonic = .ldy ∧
    (Instr.laxZpY 0).operand = .source (.memory (.zeroPageY 0)) ∧ (Instr.laxZpY 0).mnemonic = .lax :=
  ⟨start_ready _, by decide⟩

theorem witness_StoresStoreTheRegister : Ready (start 0x42A9) ∧ (start 0x42A9).mem.wf = true ∧
    (Instr.staAbsX 0xFFFF).operand = .memory (.absoluteX 0xFFFF) ∧ (Instr.staAbsX 0xFFFF).mnemonic = .sta ∧
    (Instr.stxZpY 0xFF).operand = .memory (.zeroPageY 0xFF) ∧ (Instr.stxZpY 0xFF).mnemonic = .stx ∧
    (Instr.styAbs 0).operand = .memory (.absolute 0) ∧ (Instr.styAbs 0).mnemonic = .sty ∧
    (Instr.saxIzX 0xFF).operand = .memory (.preIndexed 0xFF) ∧ (Instr.saxIzX 0xFF).mnemonic = .sax :=
  ⟨start_ready _, start_wf, by decide⟩

theorem witness_TransfersAndCounts : Ready (start 0xEA) := start_ready _

theorem witness_PushesStoreAndLowerSp : Ready (start 0x42A9) ∧ (start 0x42A9).mem.wf = true ∧
    Ready ((start 0x42A9).setSp 0) ∧ (start 0x42A9).a = 0x99 ∧ flagByte (start 0x42A9).p true = 0xFF :=
  ⟨start_ready _, start_wf, ready_of rfl rfl, rfl, by decide⟩

/-- SP = $FE, so that the byte pulled is RAM's last. -/
theorem witness_PullsRaiseSp : Ready ((start 0).setSp 0xFE) ∧
    plainByte ((start 0).setSp 0xFE) (0x0100 + zext16 (((start 0).setSp 0xFE).sp + 1)) = some 0x7F :=
  ⟨ready_of rfl rfl, by decide⟩

theorem witness_AddAndSubtractRun : Ready (start 0) ∧
    (Instr.adcAbsY 0xFFFF).operand = .source (.memory (.absoluteY 0xFFFF)) ∧
      (Instr.adcAbsY 0xFFFF).mnemonic = .adc ∧
    (Instr.sbcImm 0x99).operand = .source (.immediate 0x99) ∧ (Instr.sbcImm 0x99).mnemonic = .sbc :=
  ⟨start_ready _, by decide⟩

theorem witness_DecimalArithmeticIsBcd :
    ((0x99 : Byte).toNat % 16 < 10 ∧ (0x99 : Byte).toNat / 16 < 10) ∧
    ((0x00 : Byte).toNat % 16 < 10 ∧ (0x00 : Byte).toNat / 16 < 10) := by decide

theorem witness_LogicAndBitRun : Ready (start 0) ∧
    (Instr.andImm 0xFF).operand = .source (.immediate 0xFF) ∧ (Instr.andImm 0xFF).mnemonic = .and ∧
    (Instr.oraIzX 0xFF).operand = .source (.memory (.preIndexed 0xFF)) ∧ (Instr.oraIzX 0xFF).mnemonic = .ora ∧
    (Instr.eorIzY 0xFF).operand = .source (.memory (.postIndexed 0xFF)) ∧ (Instr.eorIzY 0xFF).mnemonic = .eor ∧
    (Instr.bitZp 0xFF).operand = .source (.memory (.zeroPage 0xFF)) ∧ (Instr.bitZp 0xFF).mnemonic = .bit :=
  ⟨start_ready _, by decide⟩

theorem witness_ComparesRun : Ready (start 0) ∧
    (Instr.cmpAbs 0xFFFF).operand = .source (.memory (.absolute 0xFFFF)) ∧ (Instr.cmpAbs 0xFFFF).mnemonic = .cmp ∧
    (Instr.cpxImm 0xFF).operand = .source (.immediate 0xFF) ∧ (Instr.cpxImm 0xFF).mnemonic = .cpx ∧
    (Instr.cpyZp 0).operand = .source (.memory (.zeroPage 0)) ∧ (Instr.cpyZp 0).mnemonic = .cpy :=
  ⟨start_ready _, by decide⟩

theorem witness_IncrementAndDecrementRun : Ready (start 0x42A9) ∧ (start 0x42A9).mem.wf = true ∧
    (Instr.incZpX 0xFF).operand = .memory (.zeroPageX 0xFF) ∧ (Instr.incZpX 0xFF).mnemonic = .inc ∧
    (Instr.decAbsX 0xFFFF).operand = .memory (.absoluteX 0xFFFF) ∧ (Instr.decAbsX 0xFFFF).mnemonic = .dec :=
  ⟨start_ready _, start_wf, by decide⟩

theorem witness_AccumulatorShiftsRun : Ready (start 0x0A) := start_ready _

theorem witness_MemoryShiftsRun : Ready (start 0x42A9) ∧ (start 0x42A9).mem.wf = true ∧
    (Instr.aslZp 0xFF).operand = .memory (.zeroPage 0xFF) ∧ (Instr.aslZp 0xFF).mnemonic = .asl ∧
    (Instr.lsrAbs 0xFFFF).operand = .memory (.absolute 0xFFFF) ∧ (Instr.lsrAbs 0xFFFF).mnemonic = .lsr ∧
    (Instr.rolZpX 0).operand = .memory (.zeroPageX 0) ∧ (Instr.rolZpX 0).mnemonic = .rol ∧
    (Instr.rorAbsX 0).operand = .memory (.absoluteX 0) ∧ (Instr.rorAbsX 0).mnemonic = .ror :=
  ⟨start_ready _, start_wf, by decide⟩

theorem witness_FlagInstructionsAndNopsRun : Ready (start 0xEA) ∧
    (Instr.nop.mnemonic = .nop ∧ Instr.nop.operand = .implied) ∧
    ((Instr.nopAbsX1C 0xFFFF).mnemonic = .nop ∧
      (Instr.nopAbsX1C 0xFFFF).operand = .source (.memory (.absoluteX 0xFFFF))) :=
  ⟨start_ready _, by decide⟩

/-- The eight conditions, with the longest offsets back and forth; every flag is 1. -/
theorem witness_BranchesRun : Ready (start 0) ∧
    ((Instr.bcc 0x80).operand = .relative 0x80 ∧ (Instr.bcc 0x80).mnemonic = .bcc) ∧
    ((Instr.bcs 0x7F).operand = .relative 0x7F ∧ (Instr.bcs 0x7F).mnemonic = .bcs) ∧
    ((Instr.beq 0x80).operand = .relative 0x80 ∧ (Instr.beq 0x80).mnemonic = .beq) ∧
    ((Instr.bne 0x7F).operand = .relative 0x7F ∧ (Instr.bne 0x7F).mnemonic = .bne) ∧
    ((Instr.bmi 0x80).operand = .relative 0x80 ∧ (Instr.bmi 0x80).mnemonic = .bmi) ∧
    ((Instr.bpl 0x7F).operand = .relative 0x7F ∧ (Instr.bpl 0x7F).mnemonic = .bpl) ∧
    ((Instr.bvc 0xFF).operand = .relative 0xFF ∧ (Instr.bvc 0xFF).mnemonic = .bvc) ∧
    ((Instr.bvs 0x00).operand = .relative 0x00 ∧ (Instr.bvs 0x00).mnemonic = .bvs) ∧
    (Mnemonic.bcs, true) ∈ [(.bcc, !(start 0).p.c), (.bcs, (start 0).p.c), (.beq, (start 0).p.z),
      (.bne, !(start 0).p.z), (.bmi, (start 0).p.n), (.bpl, !(start 0).p.n), (.bvc, !(start 0).p.v),
      (.bvs, (start 0).p.v)] :=
  ⟨start_ready _, by decide⟩

/-- A pointer at the end of a page of RAM, with both its bytes in RAM. -/
theorem witness_JumpsRun : Ready (start 0) ∧ plainByte (start 0) 0x00FF = some 0x7F ∧
    (plainByte (start 0) 0x10FF = some 0 ∧ plainByte (start 0) (word (hiByte 0x10FF) (loByte 0x10FF + 1)) = some 0) :=
  ⟨start_ready _, by decide⟩

theorem witness_JsrRuns : Ready (start 0xF00020) ∧ (start 0xF00020).mem.wf = true ∧
    plainByte (start 0xF00020) (start 0xF00020).pc = some 0x20 := ⟨start_ready _, by decide⟩

/-- A pulled word from which PC does not wrap, and $FFFF. -/
theorem witness_RtsRuns : (Ready ((start 0).setSp 0xFD) ∧
    plainByte ((start 0).setSp 0xFD) (0x0100 + zext16 (0xFD + 1)) = some 0 ∧
    plainByte ((start 0).setSp 0xFD) (0x0100 + zext16 (0xFD + 2)) = some 0x7F) ∧
    (let s := poke (poke ((start 0).setSp 0xFD) 0xFE 0xFF) 0xFF 0xFF
     plainByte s 0x01FE = some 0xFF ∧ plainByte s 0x01FF = some 0xFF ∧ word 0xFF 0xFF = 0xFFFF) :=
  ⟨⟨ready_of rfl rfl, by decide⟩, by decide⟩

/-- PC in the middle of memory, and at its end. -/
theorem witness_BrkRuns : (Ready (start 0x42A9) ∧ (start 0x42A9).mem.wf = true ∧ (start 0x42A9).pc ≠ 0xFFFF) ∧
    (Ready ((start 0x42A9).setPc 0xFFFF) ∧ ((start 0x42A9).setPc 0xFFFF).mem.wf = true ∧
      ((start 0x42A9).setPc 0xFFFF).pc = 0xFFFF) :=
  ⟨⟨start_ready _, start_wf, by decide⟩, ⟨ready_of rfl rfl, start_wf, rfl⟩⟩

theorem witness_RtiRuns : Ready ((start 0).setSp 0xFC) ∧
    plainByte ((start 0).setSp 0xFC) (0x0100 + zext16 (0xFC + 1)) = some 0 ∧
    plainByte ((start 0).setSp 0xFC) (0x0100 + zext16 (0xFC + 2)) = some 0 ∧
    plainByte ((start 0).setSp 0xFC) (0x0100 + zext16 (0xFC + 3)) = some 0x7F := ⟨ready_of rfl rfl, by decide⟩

theorem witness_InterruptEntryRuns : (irqVector = 0xFFFE ∧ nmiVector = 0xFFFA) ∧ Ready (start 0x42A9) ∧
    (start 0x42A9).mem.wf = true := ⟨by decide, start_ready _, start_wf⟩

theorem witness_UndocumentedModifyRuns : Ready (start 0x42A9) ∧ (start 0x42A9).mem.wf = true ∧
    (Instr.dcpAbsY 0xFFFF).operand = .memory (.absoluteY 0xFFFF) ∧ (Instr.dcpAbsY 0xFFFF).mnemonic = .dcp ∧
    (Instr.iscIzX 0xFF).operand = .memory (.preIndexed 0xFF) ∧ (Instr.iscIzX 0xFF).mnemonic = .isc ∧
    (Instr.sloIzY 0xFF).operand = .memory (.postIndexed 0xFF) ∧ (Instr.sloIzY 0xFF).mnemonic = .slo :=
  ⟨start_ready _, start_wf, by decide⟩

/-- ARR with D = 1 in the first state, with D = 0 in the second. -/
theorem witness_UndocumentedImmediateRuns : Ready (start 0) ∧ (start 0).p.d = true ∧ Ready State.reset ∧
    State.reset.p.d = false ∧
    ((Instr.ancImm2B 0xFF).operand = .source (.immediate 0xFF) ∧ (Instr.ancImm2B 0xFF).mnemonic = .anc) ∧
    ((Instr.alrImm 0xFF).operand = .source (.immediate 0xFF) ∧ (Instr.alrImm 0xFF).mnemonic = .alr) ∧
    ((Instr.axsImm 0xFF).operand = .source (.immediate 0xFF) ∧ (Instr.axsImm 0xFF).mnemonic = .axs) ∧
    ((Instr.arrImm 0xFF).operand = .source (.immediate 0xFF) ∧ (Instr.arrImm 0xFF).mnemonic = .arr) :=
  ⟨start_ready _, rfl, ready_of rfl rfl, by decide⟩

/-- X AND the immediate is 0; A is $FF. -/
theorem witness_XaaRuns :
    (Ready ((start 0).setX 0x0F) ∧ ((start 0).setX 0x0F).x &&& 0xF0 = 0 ∧
      ∃ t, exec (.xaaImm 0xF0) ((start 0).setX 0x0F) = .next t) ∧
    (Ready ((start 0).setA 0xFF) ∧ ((start 0).setA 0xFF).a = 0xFF ∧
      ∃ t, exec (.xaaImm 0x3C) ((start 0).setA 0xFF) = .next t) :=
  ⟨⟨ready_of rfl rfl, by decide, _, rfl⟩, ⟨ready_of rfl rfl, rfl, _, rfl⟩⟩

/-- PLP, BRK, TXA, TAX, TAY, INC and CLD, by the names that change. -/
theorem witness_OnlyListedInstructionsWrite :
    (Ready ((start 0).setSp 0) ∧ Ready (start 0x42A9)) ∧
    (∃ t, exec .plp ((start 0).setSp 0xFD) = .next t ∧
      (!t.p.n && !t.p.z && !t.p.v && !t.p.b && !t.p.d && !t.p.i && !t.p.c && t.sp == 0xFE) = true) ∧
    (∃ t, exec .brk (load 0xF000 0) = .next t ∧ (t.sp == 0xFA && t.pc == 0 && decide (t.mem ≠ [])) = true) ∧
    (∃ t, exec .txa (start 0) = .next t ∧ (t.a == 0xFF) = true) ∧
    (∃ t, exec .tax (start 0) = .next t ∧ (t.x == 0x99) = true) ∧
    (∃ t, exec .tay (start 0) = .next t ∧ (t.y == 0x99) = true) :=
  ⟨⟨ready_of rfl rfl, start_ready _⟩, next_of_after (by decide), next_of_after (by decide), next_of_after (by decide),
    next_of_after (by decide), next_of_after (by decide)⟩

/-- The pointers of the two indirect modes at the end of page 0. -/
theorem witness_AddressModes : Ready (start 0) ∧
    (plainByte (start 0) (zext16 (0xFF + (start 0).x)) = some 0 ∧
      plainByte (start 0) (zext16 (0xFF + (start 0).x + 1)) = some 0x7F) ∧
    (plainByte (start 0) (zext16 0xFE) = some 0 ∧ plainByte (start 0) (zext16 (0xFE + 1)) = some 0x7F) :=
  ⟨start_ready _, by decide⟩

/-- X = $FF: a sum that crosses, past the end of the address space, and one that does not. -/
theorem witness_PageCrossIsTheCarry :
    (∃ ad t, resolve (.absoluteX 0xFFFF) (start 0) = .next (ad, t) ∧ ad = ⟨0x00FE, 0xFFFE, true, true⟩) ∧
    (∃ ad t, resolve (.absoluteX 0xFF00) (start 0) = .next (ad, t) ∧ ad = ⟨0xFFFF, 0xFFFF, false, true⟩) :=
  ⟨⟨_, _, rfl, by decide⟩, ⟨_, _, rfl, by decide⟩⟩

theorem witness_ReadPhases : Ready (start 0) ∧
    (∃ t, resolve (.absoluteX 0xFF81) (start 0) = .next (⟨0x0080, 0xFF80, true, true⟩, t)) ∧
    (∃ t, resolve (.zeroPage 0xFF) (start 0) = .next (⟨0x00FF, 0x00FF, false, false⟩, t)) ∧
    plainByte (start 0) 0x0080 = some 0 ∧ plainByte (start 0) 0x00FF = some 0x7F :=
  ⟨start_ready _, ⟨_, rfl⟩, ⟨_, rfl⟩, by decide, by decide⟩

/-- The ends of each range of the chip select (20_memory.md R81, R84). -/
theorem witness_ChipSelect :
    (4096 ≤ (0x1000 : Addr13).toNat ∧ 4096 ≤ (0x1FFF : Addr13).toNat) ∧
    ((0x0DFF : Addr13).toNat < 4096 ∧ (0x0DFF : Addr13).toNat / 128 % 2 = 1 ∧ (0x0DFF : Addr13).toNat / 512 % 2 = 0) ∧
    ((0x0280 : Addr13).toNat < 4096 ∧ (0x0280 : Addr13).toNat / 128 % 2 = 1 ∧ (0x0280 : Addr13).toNat / 512 % 2 = 1) ∧
    ((0x0F7F : Addr13).toNat < 4096 ∧ (0x0F7F : Addr13).toNat / 128 % 2 = 0) ∧
    (128 ≤ (0x80 : Byte).toNat ∧ (0x7F : Byte).toNat < 128) ∧
    (0xF000 : Word).toNat % 8192 = (0x1000 : Word).toNat % 8192 := by simp

/-- A write to RAM $80 read at a mirror, and read at another byte; writes that select the TIA, and the RIOT. -/
theorem witness_WriteCyclesStoreAndServe : Ready (start 0x42A9) ∧ (start 0x42A9).mem.wf = true ∧
    ramTarget 0x0080 = some 0x80 ∧ ramTarget 0x0D80 = some 0x80 ∧ ramTarget 0x01FF = some 0xFF ∧
    ramTarget 0x0280 = none ∧ chipSelect (busAddr 0x0000) = .tia ∧ chipSelect (busAddr 0x017F) = .tia ∧
    chipSelect (busAddr 0x0280) = .riot := ⟨start_ready _, start_wf, by decide⟩

/-- A TIA at a colour clock of the scanline. -/
def tiaAt (hsync : Fin 57) (pclk : Fin 4) : Tia := { Tia.reset with hsync := hsync, pclk := pclk }

theorem witness_ScanlineIs228Clocks :
    { tiaAt 56 1 with dq := [⟨1, .hsyncOff⟩, ⟨4, .newline⟩] }.tags.Nodup ∧ (tiaAt 56 1).cc = 227 := by decide

/-- Both values of the latch, at cc 63, and the rest of the line; the starts of the other two clauses, with both values
of rsync_pending, and their last clocks. -/
theorem witness_LineEventsAtTheirClocks :
    (∀ latch : Bool,
      let t := { tiaAt 15 1 with hblank := true, hmoveLatch := latch }
      t.tags.Nodup ∧ t.cc = 63 ∧ t.hblank = true ∧ .hblankOff ∉ t.tags ∧ .newline ∉ t.tags) ∧
    (List.replicate 164 (true, true)).length ≤ 164 ∧
    ((tiaAt 3 1).tags.Nodup ∧ (tiaAt 3 1).cc = 15 ∧ .hsyncOff ∉ (tiaAt 3 1).tags ∧ .cburstOff ∉ (tiaAt 3 1).tags) ∧
    (1 ≤ [(true, true)].length ∧ (List.replicate 212 (true, true)).length ≤ 212) ∧
    (∀ pending : Bool,
      let t := { tiaAt 55 1 with rsyncPending := pending, dq := [⟨5, .hblankOff⟩] }
      t.tags.Nodup ∧ t.cc = 223 ∧ .newline ∉ t.tags) ∧
    (List.replicate 228 (true, true)).length ≤ 228 :=
  ⟨by decide, List.length_replicate.le, by decide, ⟨by decide, List.length_replicate.le⟩, by decide,
    List.length_replicate.le⟩

/-- The first and the last colour clock of the first clause, with the two phases between that an RSYNC can leave, and
both of the other clauses. -/
theorem witness_WsyncStallsToTheEndOfTheLine :
    chipSelect (busAddr 0x0002) = .tia ∧ (0x0002 : Word).toNat % 64 = 2 ∧
    (∀ hsync pclk, Ready ((start 0).setTia (tiaAt hsync pclk))) ∧
    (∃ t, memWrite 0x0002 0 ((start 0).setTia (tiaAt 56 1)) = .next t ∧ (t.tia.cc == 2) = true) ∧
    (∃ t, memWrite 0x0002 0 ((start 0).setTia (tiaAt 55 3)) = .next t ∧ (t.tia.cc == 224) = true) ∧
    (∃ t, memWrite 0x0002 0 ((start 0).setTia (tiaAt 55 0)) = .next t ∧ (t.tia.cc == 225) = true) ∧
    (∃ t, memWrite 0x0002 0 ((start 0).setTia (tiaAt 55 1)) = .next t ∧ (t.tia.cc == 226) = true) ∧
    (∃ t, memWrite 0x0002 0 ((start 0).setTia (tiaAt 56 0)) = .next t ∧ (t.tia.cc == 1) = true) ∧
    (∃ t, memWrite 0x0002 0 ((start 0).setTia (tiaAt 56 2)) = .next t ∧ (t.tia.cc == 227) = true) ∧
    (∃ t, memWrite 0x0002 0 ((start 0).setTia (tiaAt 56 3)) = .next t ∧ (t.tia.cc == 0) = true) ∧
    (227 - 2) % 3 = 0 ∧ (227 - 224) % 3 = 0 :=
  ⟨by decide, by decide, fun _ _ => ⟨rfl, rfl, List.nodup_nil⟩, next_of_after (by decide), next_of_after (by decide),
    next_of_after (by decide), next_of_after (by decide), next_of_after (by decide), next_of_after (by decide),
    next_of_after (by decide), by decide, by decide⟩

theorem witness_RsyncRestartsTheLine :
    { tiaAt 20 0 with dq := [⟨3, .newline⟩, ⟨2, .hsyncOff⟩] }.tags.Nodup ∧
    { tiaAt 56 2 with rsyncPending := true }.hsync = 56 ∧ { tiaAt 56 2 with rsyncPending := true }.rsyncPending = true ∧
    (List.replicate 3 (true, true)).length ≤ 3 ∧ (List.replicate 4 (true, true)).length = 4 := by decide

/-- All sixteen ripple steps; hm 0 gives eight pulses (61_tia_clock.md R362); the first Φ2 rise after the service has
one, and no clock before it. -/
theorem witness_HmovePulses : 16 ≤ 16 ∧ pulseCount .p0 16 (strobeHmove (tiaAt 20 0)) = 8 ∧ (tiaAt 20 0).tags.Nodup ∧
    (∃ w, tiaRun [(true, true)] (restOfClock (true, true) (strobeHmove (tiaAt 20 0))) = .ok w ∧
      w.pulse.p0 = false) ∧
    (∃ w, tiaRun [(true, true), (true, true)] (restOfClock (true, true) (strobeHmove (tiaAt 20 0))) = .ok w ∧
      w.pulse.p0 = true) :=
  ⟨by decide, by decide, by decide, ⟨_, rfl, rfl⟩, ⟨_, rfl, rfl⟩⟩

/-- The three registers, with an earlier commit still waiting. -/
theorem witness_PlayfieldCommitsAfterFiveClocks :
    let t := { tiaAt 20 0 with dq := [⟨3, .pf 0 1 2⟩] }
    t.tags.Nodup ∧ (∃ u, tiaWrite 0x0D 0xFF t = .ok u) ∧ (∃ u, tiaWrite 0x0E 0xFF t = .ok u) ∧
      (∃ u, tiaWrite 0x0F 0xFF t = .ok u) :=
  ⟨by decide, ⟨_, rfl⟩, ⟨_, rfl⟩, ⟨_, rfl⟩⟩

/-- Each strobe under each value of HBLANK; clocks with a strobe's action two clocks off, and with both missiles locked. -/
theorem witness_ObjectCountersMove :
    (∀ hb : Bool,
      let t := { tiaAt 20 0 with hblank := hb }
      let pins := List.replicate (if t.hblank then 2 else 4) (true, true)
      t.tags.Nodup ∧ t.pl0.resmp = false ∧ t.pl1.resmp = false ∧ pins.length = (if t.hblank then 2 else 4) ∧
        (∃ u w, tiaWrite 0x10 0 t = .ok u ∧ tiaRun pins (restOfClock (true, true) u) = .ok w) ∧
        (∃ u w, tiaWrite 0x11 0 t = .ok u ∧ tiaRun pins (restOfClock (true, true) u) = .ok w) ∧
        (∃ u w, tiaWrite 0x12 0 t = .ok u ∧ tiaRun pins (restOfClock (true, true) u) = .ok w) ∧
        (∃ u w, tiaWrite 0x13 0 t = .ok u ∧ tiaRun pins (restOfClock (true, true) u) = .ok w) ∧
        (∃ u w, tiaWrite 0x14 0 t = .ok u ∧ tiaRun pins (restOfClock (true, true) u) = .ok w)) ∧
    (∀ hb : Bool,
      let t := { tiaAt 20 0 with hblank := hb, dq := [⟨2, .res .m0 159⟩] }
      (∀ o, ∀ sl ∈ t.dq, sl.event.tag = .res o → 1 < sl.remaining) ∧
        ∃ u sig, tiaStep false true true t = .ok (u, sig) ∧ u.pl0.resmp = false ∧ u.pl1.resmp = false) ∧
    (∃ u sig, tiaStep true true true
        { tiaAt 20 0 with pl0 := { Player.reset with resmp := true }, pl1 := { Player.reset with resmp := true } } =
      .ok (u, sig) ∧ u.pl0.resmp = true ∧ u.pl1.resmp = true) := by
  refine ⟨fun hb => ?_, fun hb => ?_, ⟨_, _, rfl, rfl, rfl⟩⟩
  · cases hb <;> exact ⟨by decide, rfl, rfl, rfl, ⟨_, _, rfl, rfl⟩, ⟨_, _, rfl, rfl⟩, ⟨_, _, rfl, rfl⟩,
      ⟨_, _, rfl, rfl⟩, ⟨_, _, rfl, rfl⟩⟩
  · refine ⟨fun o sl hsl _ => ?_, ?_⟩
    · rw [List.mem_singleton.mp hsl]
      decide
    · cases hb <;> exact ⟨_, _, rfl, rfl, rfl⟩

theorem witness_TiaRegisterWrites : 0x2D ≤ (0x2D : BitVec 6).toNat ∧ 0x2D ≤ (0x3F : BitVec 6).toNat := by decide

/-- In HBLANK, outside it with CXCLR served, and with a NEWLINE that fires. -/
theorem witness_CollisionsAndTheSignalRecord :
    (∃ u sig, tiaStep false true true { tiaAt 20 0 with hblank := true } = .ok (u, sig) ∧ u.hblank = true) ∧
    (∃ u sig, tiaStep true true true { tiaAt 20 0 with inbox := some (0x2C, 0) } = .ok (u, sig) ∧
      u.hblank = false) ∧
    (∃ u sig, tiaStep false true true { tiaAt 56 1 with dq := [⟨1, .newline⟩] } = .ok (u, sig) ∧
      sig.newScanline = true) :=
  ⟨⟨_, _, rfl, rfl⟩, ⟨_, _, rfl, rfl⟩, ⟨_, _, rfl, rfl⟩⟩

/-- The fourteen read registers, at their first and at a later mirror; the paddles dumped, the buttons latched; a clock
with the latches on, one that serves a VBLANK write with bit 6 = 0, and one with neither. -/
theorem witness_TiaReadsAndButtonLatches :
    ((∀ r, r < 14 → chipSelect (busAddr (BitVec.ofNat 16 r)) = .tia ∧ (BitVec.ofNat 16 r).toNat % 16 = r) ∧
      chipSelect (busAddr 0x007D) = .tia ∧ (0x007D : Word).toNat % 16 = 13) ∧
    (Ready ((start 0).setTia { Tia.reset with vblankDump := true, vblankLatch := true }) ∧
      ((start 0).setTia { Tia.reset with vblankDump := true, vblankLatch := true }).tia.rdy = true ∧
      ((start 0).setTia { Tia.reset with vblankDump := true, vblankLatch := true }).tia.vblankDump = true ∧
      ((start 0).setTia { Tia.reset with vblankDump := true, vblankLatch := true }).tia.vblankLatch = true) ∧
    (∃ u sig, tiaStep true false true { tiaAt 20 0 with vblankLatch := true } = .ok (u, sig) ∧
      u.vblankLatch = true) ∧
    (∃ u sig, tiaStep true false true { tiaAt 20 0 with vblankLatch := true, inbox := some (0x01, 0xBF) } =
      .ok (u, sig)) ∧
    (0xBF : Byte).getLsbD 6 = false ∧
    (∃ u sig, tiaStep false false true (tiaAt 20 0) = .ok (u, sig) ∧ u.vblankLatch = false) :=
  ⟨by decide, ⟨⟨rfl, rfl, List.nodup_nil⟩, rfl, rfl, rfl⟩, ⟨_, _, rfl, rfl⟩, ⟨_, _, rfl⟩, by decide, ⟨_, _, rfl, rfl⟩⟩

/-- The visible line's first and last pixels of both halves, and the last one before it. -/
theorem witness_PlayfieldBits : (tiaAt 16 1).cc = 67 ∧ (tiaAt 17 2).cc = 68 ∧ (tiaAt 36 1).cc = 71 + 4 * 19 ∧
    (tiaAt 37 2).cc = 148 ∧ (tiaAt 56 1).cc = 151 + 4 * 19 := by decide

/-- A TIA for each value of what the clauses test, and flags for each of their lines. -/
theorem witness_PixelPriority :
    ({ tiaAt 20 0 with hblank := true }.hblank = true ∧ { tiaAt 20 0 with vblankVideo := true }.vblankVideo = true) ∧
    ((tiaAt 20 0).hblank = false ∧ (tiaAt 20 0).vblankVideo = false ∧ (tiaAt 20 0).ctrlpf.getLsbD 2 = false) ∧
    ({ tiaAt 20 0 with ctrlpf := 0x04 }.hblank = false ∧ { tiaAt 20 0 with ctrlpf := 0x04 }.vblankVideo = false ∧
      { tiaAt 20 0 with ctrlpf := 0x04 }.ctrlpf.getLsbD 2 = true) ∧
    (∀ p0 p1 pf bl : Bool, (OnFlags.mk p0 p1 false false bl pf).p0 = p0 ∧
      (OnFlags.mk p0 p1 false false bl pf).bl = bl) := by decide

/-- The smallest and the largest count, with the shortest and the longest divisor. -/
theorem witness_TimerCountsDown :
    ((1 : Byte) ≠ 0 ∧ { Riot.reset with inbox := some (.timer .d1, 1) }.inbox = some (.timer .d1, 1) ∧
      (List.replicate 1 true).length = 0 * Divisor.d1.cycles + 1 ∧
      (List.replicate 2 true).length = (1 : Byte).toNat * Divisor.d1.cycles + 1) ∧
    ((0xFF : Byte) ≠ 0 ∧ { Riot.reset with inbox := some (.timer .d1024, 0xFF) }.inbox =
      some (.timer .d1024, 0xFF) ∧ 254 + 1 ≤ (0xFF : Byte).toNat ∧ 1 ≤ Divisor.d1024.cycles) := by decide

/-- An address for each clause. -/
theorem witness_RiotRegisters :
    (0x0284 : Addr13).toNat % 8 = 4 ∧ (0x0286 : Addr13).toNat % 8 = 6 ∧ (0x0285 : Addr13).toNat % 8 = 5 ∧
    (0x0287 : Addr13).toNat % 8 = 7 ∧ (0x0280 : Addr13).toNat % 8 = 0 ∧ (0x0281 : Addr13).toNat % 8 = 1 ∧
    (0x0282 : Addr13).toNat % 8 = 2 ∧ (0x0283 : Addr13).toNat % 8 = 3 ∧
    (4 ≤ (0x0287 : Addr13).toNat % 8 ∧ (0x0287 : Addr13).toNat / 16 % 2 = 0) ∧
    (4 ≤ (0x0294 : Addr13).toNat % 8 ∧ (0x0294 : Addr13).toNat / 16 % 2 = 1) ∧
    Ready (start 0) ∧ (start 0).tia.rdy = true ∧ chipSelect (busAddr 0x0284) = .riot :=
  ⟨by decide, by decide, by decide, by decide, by decide, by decide, by decide, by decide, by decide, by decide,
    start_ready _, rfl, by decide⟩

/-- A plain cartridge whose reset vector is $F000, and 4 KiB to attach. -/
theorem witness_ResetValues :
    (let s := poke (start 0x42A9) 0x1FFD 0xF0
     s.cart = .rom ∧ s.mem.wf = true ∧ (resetMachine s).pc = 0xF000 ∧ (0x1000 : Nat) ≤ 0x1FFD) ∧
    (List.replicate 4096 (0xEA : Byte)).length = 4096 ∧ ((start 0xEA).setCart (.host 1)).cart = .host 1 :=
  ⟨by decide, List.length_replicate, rfl⟩

end Sys2Proof.Tests
end

section
/-! PROOFS of the family 10_state.md: what an instruction may write and how many cycles it takes, that every step keeps
the invariant of step boundaries, and the values of reset. Each instruction is one operation on one operand; each
operation is a chain of cycles and register updates, and each link of the chain has one lemma. -/

namespace Sys2Proof.Machine

/-! ### The operation that each instruction runs -/

/-- The operation of the model that a mnemonic's instruction with opcode op runs on its operand. -/
inductive Meaning (op : Byte) : Mnemonic → Operand → (State → Out) → Prop
  | adc (src : Source) : Meaning op .adc (.source src) (opAdc src)
  | sbc (src : Source) : Meaning op .sbc (.source src) (opSbc src)
  | and (src : Source) : Meaning op .and (.source src) (opAnd src)
  | ora (src : Source) : Meaning op .ora (.source src) (opOra src)
  | eor (src : Source) : Meaning op .eor (.source src) (opEor src)
  | bit (src : Source) : Meaning op .bit (.source src) (opBit src)
  | cmp (src : Source) : Meaning op .cmp (.source src) (opCmp src)
  | cpx (src : Source) : Meaning op .cpx (.source src) (opCpx src)
  | cpy (src : Source) : Meaning op .cpy (.source src) (opCpy src)
  | lda (src : Source) : Meaning op .lda (.source src) (opLda src)
  | ldx (src : Source) : Meaning op .ldx (.source src) (opLdx src)
  | ldy (src : Source) : Meaning op .ldy (.source src) (opLdy src)
  | lax (src : Source) : Meaning op .lax (.source src) (opLax src)
  | nop (src : Source) : Meaning op .nop (.source src) (opNop src)
  | anc (src : Source) : Meaning op .anc (.source src) (opAnc src)
  | alr (src : Source) : Meaning op .alr (.source src) (opAlr src)
  | arr (src : Source) : Meaning op .arr (.source src) (opArr src)
  | xaa (src : Source) : Meaning op .xaa (.source src) (opXaa src)
  | axs (src : Source) : Meaning op .axs (.source src) (opAxs src)
  | inc (m : MemMode) : Meaning op .inc (.memory m) (opInc m)
  | dec (m : MemMode) : Meaning op .dec (.memory m) (opDec m)
  | asl (m : MemMode) : Meaning op .asl (.memory m) (opAsl m)
  | lsr (m : MemMode) : Meaning op .lsr (.memory m) (opLsr m)
  | rol (m : MemMode) : Meaning op .rol (.memory m) (opRol m)
  | ror (m : MemMode) : Meaning op .ror (.memory m) (opRor m)
  | dcp (m : MemMode) : Meaning op .dcp (.memory m) (opDcp m)
  | isc (m : MemMode) : Meaning op .isc (.memory m) (opIsc m)
  | slo (m : MemMode) : Meaning op .slo (.memory m) (opSlo m)
  | sta (m : MemMode) : Meaning op .sta (.memory m) (opSta m)
  | stx (m : MemMode) : Meaning op .stx (.memory m) (opStx m)
  | sty (m : MemMode) : Meaning op .sty (.memory m) (opSty m)
  | sax (m : MemMode) : Meaning op .sax (.memory m) (opSax m)
  | aslAcc : Meaning op .asl .accumulator opAslAcc
  | lsrAcc : Meaning op .lsr .accumulator opLsrAcc
  | rolAcc : Meaning op .rol .accumulator opRolAcc
  | rorAcc : Meaning op .ror .accumulator opRorAcc
  | inx : Meaning op .inx .implied opInx
  | iny : Meaning op .iny .implied opIny
  | dex : Meaning op .dex .implied opDex
  | dey : Meaning op .dey .implied opDey
  | tax : Meaning op .tax .implied opTax
  | tay : Meaning op .tay .implied opTay
  | txa : Meaning op .txa .implied opTxa
  | tya : Meaning op .tya .implied opTya
  | tsx : Meaning op .tsx .implied opTsx
  | txs : Meaning op .txs .implied opTxs
  | pha : Meaning op .pha .implied opPha
  | php : Meaning op .php .implied opPhp
  | pla : Meaning op .pla .implied opPla
  | plp : Meaning op .plp .implied opPlp
  | clc : Meaning op .clc .implied opClc
  | sec : Meaning op .sec .implied opSec
  | cli : Meaning op .cli .implied opCli
  | sei : Meaning op .sei .implied opSei
  | cld : Meaning op .cld .implied opCld
  | sed : Meaning op .sed .implied opSed
  | clv : Meaning op .clv .implied opClv
  | rts : Meaning op .rts .implied opRts
  | brk : Meaning op .brk .implied opBrk
  | rti : Meaning op .rti .implied opRti
  | nopImplied : Meaning op .nop .implied (impliedOp id)
  | bcc (off : Byte) : Meaning op .bcc (.relative off) (fun s => opBranch (!s.p.c) off s)
  | bcs (off : Byte) : Meaning op .bcs (.relative off) (fun s => opBranch (s.p.c) off s)
  | beq (off : Byte) : Meaning op .beq (.relative off) (fun s => opBranch (s.p.z) off s)
  | bne (off : Byte) : Meaning op .bne (.relative off) (fun s => opBranch (!s.p.z) off s)
  | bmi (off : Byte) : Meaning op .bmi (.relative off) (fun s => opBranch (s.p.n) off s)
  | bpl (off : Byte) : Meaning op .bpl (.relative off) (fun s => opBranch (!s.p.n) off s)
  | bvc (off : Byte) : Meaning op .bvc (.relative off) (fun s => opBranch (!s.p.v) off s)
  | bvs (off : Byte) : Meaning op .bvs (.relative off) (fun s => opBranch (s.p.v) off s)
  | jmp (target : Word) : Meaning op .jmp (.target target) (opJmp target)
  | jmpIndirect (ptr : Word) : Meaning op .jmp (.pointer ptr) (opJmpIndirect ptr)
  | jsr (target : Word) : Meaning op .jsr (.target target) (opJsr target)
  | invalid : Meaning op .invalid .implied (invalidOpcode op)

/-- Every instruction runs the operation of its mnemonic on its operand. -/
theorem exec_meaning (i : Instr) : Meaning i.opcode i.mnemonic i.operand (exec i) := by
  cases i <;> dsimp only [Instr.mnemonic, Instr.opcode, Instr.operand] <;> constructor

/-! ### Who writes what (10_state.md R30, R31, R34) -/

/-- The mnemonics that write N and Z. -/
def nzWriters : List Mnemonic :=
  [.adc, .sbc, .and, .ora, .eor, .lda, .ldx, .ldy, .inc, .dec, .inx, .iny, .dex, .dey, .tax, .tay, .txa, .tya, .tsx,
    .pla, .asl, .lsr, .rol, .ror, .cmp, .cpx, .cpy, .bit, .plp, .rti, .lax, .dcp, .isc, .slo, .anc, .alr, .arr, .xaa,
    .axs]

/-- The mnemonics that write V. -/
def vWriters : List Mnemonic := [.adc, .sbc, .bit, .clv, .plp, .rti, .isc, .arr]

/-- The mnemonics that write B. -/
def bWriters : List Mnemonic := [.plp, .rti]

/-- The mnemonics that write D. -/
def dWriters : List Mnemonic := [.cld, .sed, .plp, .rti]

/-- The mnemonics that write I. -/
def iWriters : List Mnemonic := [.cli, .sei, .plp, .rti, .brk]

/-- The mnemonics that write C. -/
def cWriters : List Mnemonic :=
  [.adc, .sbc, .asl, .lsr, .rol, .ror, .cmp, .cpx, .cpy, .clc, .sec, .plp, .rti, .dcp, .isc, .slo, .anc, .alr, .arr,
    .axs]

/-- The mnemonics that write A. -/
def aWriters : List Mnemonic :=
  [.lda, .txa, .tya, .pla, .adc, .sbc, .and, .ora, .eor, .asl, .lsr, .rol, .ror, .lax, .isc, .slo, .anc, .alr, .arr,
    .xaa]

/-- The mnemonics that write X. -/
def xWriters : List Mnemonic := [.ldx, .tax, .tsx, .inx, .dex, .lax, .axs]

/-- The mnemonics that write Y. -/
def yWriters : List Mnemonic := [.ldy, .tay, .iny, .dey]

/-- The mnemonics that write SP. -/
def spWriters : List Mnemonic := [.txs, .pha, .php, .pla, .plp, .jsr, .rts, .brk, .rti]

/-- The mnemonics that write PC after the fetch. -/
def pcWriters : List Mnemonic := [.bcc, .bcs, .beq, .bne, .bmi, .bpl, .bvc, .bvs, .jmp, .jsr, .rts, .brk, .rti]

/-- The mnemonics that write memory. -/
def memWriters : List Mnemonic :=
  [.sta, .stx, .sty, .sax, .pha, .php, .jsr, .brk, .asl, .lsr, .rol, .ror, .inc, .dec, .slo, .dcp, .isc]

/-- From s to t nothing changed that the mnemonic is no writer of. -/
structure OnlyWrites (mn : Mnemonic) (s t : State) : Prop where
  nz  : mn ∉ nzWriters → t.p.n = s.p.n ∧ t.p.z = s.p.z
  v   : mn ∉ vWriters → t.p.v = s.p.v
  b   : mn ∉ bWriters → t.p.b = s.p.b
  d   : mn ∉ dWriters → t.p.d = s.p.d
  i   : mn ∉ iWriters → t.p.i = s.p.i
  c   : mn ∉ cWriters → t.p.c = s.p.c
  a   : mn ∉ aWriters → t.a = s.a
  x   : mn ∉ xWriters → t.x = s.x
  y   : mn ∉ yWriters → t.y = s.y
  sp  : mn ∉ spWriters → t.sp = s.sp
  pc  : mn ∉ pcWriters → t.pc = s.pc
  mem : mn ∉ memWriters → t.mem = s.mem

theorem SameCpu.onlyWrites {mn : Mnemonic} {s t : State} (h : SameCpu s t) (hm : mn ∉ memWriters → t.mem = s.mem) :
    OnlyWrites mn s t where
  nz := fun _ => by rw [h.p]; exact ⟨rfl, rfl⟩
  v := fun _ => by rw [h.p]
  b := fun _ => by rw [h.p]
  d := fun _ => by rw [h.p]
  i := fun _ => by rw [h.p]
  c := fun _ => by rw [h.p]
  a := fun _ => h.a
  x := fun _ => h.x
  y := fun _ => h.y
  sp := fun _ => h.sp
  pc := fun _ => h.pc
  mem := hm

theorem OnlyWrites.refl (mn : Mnemonic) (s : State) : OnlyWrites mn s s := (SameCpu.refl s).onlyWrites fun _ => rfl

theorem OnlyWrites.trans {mn : Mnemonic} {s t u : State} (h : OnlyWrites mn s t) (k : OnlyWrites mn t u) :
    OnlyWrites mn s u where
  nz := fun hn => ⟨(k.nz hn).1.trans (h.nz hn).1, (k.nz hn).2.trans (h.nz hn).2⟩
  v := fun hn => (k.v hn).trans (h.v hn)
  b := fun hn => (k.b hn).trans (h.b hn)
  d := fun hn => (k.d hn).trans (h.d hn)
  i := fun hn => (k.i hn).trans (h.i hn)
  c := fun hn => (k.c hn).trans (h.c hn)
  a := fun hn => (k.a hn).trans (h.a hn)
  x := fun hn => (k.x hn).trans (h.x hn)
  y := fun hn => (k.y hn).trans (h.y hn)
  sp := fun hn => (k.sp hn).trans (h.sp hn)
  pc := fun hn => (k.pc hn).trans (h.pc hn)
  mem := fun hn => (k.mem hn).trans (h.mem hn)

/-! ### Pieces of an instruction -/

/-- What a piece of an instruction does: it keeps what every piece of a step keeps, it writes nothing that its mnemonic
is no writer of, and it counts n cycles in the record of its opcode. -/
structure Piece (mn : Mnemonic) (n : Nat) (s t : State) : Prop where
  lived  : Lived s t
  only   : OnlyWrites mn s t
  opcode : t.cur.opcode = s.cur.opcode
  cycles : t.cur.cycles = s.cur.cycles + n

theorem Piece.ready {mn : Mnemonic} {n : Nat} {s t : State} (h : Piece mn n s t) : Ready t := h.lived.ready

theorem Piece.trans {mn : Mnemonic} {m n : Nat} {s t u : State} (h : Piece mn m s t) (k : Piece mn n t u) :
    Piece mn (m + n) s u where
  lived := h.lived.trans k.lived
  only := h.only.trans k.only
  opcode := k.opcode.trans h.opcode
  cycles := by rw [k.cycles, h.cycles, Nat.add_assoc]

/-- A piece with an update after it. -/
theorem Piece.update {mn : Mnemonic} {n : Nat} {s t u : State} (h : Piece mn n s t)
    (k : Ready t → Piece mn 0 t u) : Piece mn n s u := h.trans (k h.ready)

/-- An update that leaves the record alone takes no cycle. -/
theorem Lived.piece {mn : Mnemonic} {s t : State} (l : Lived s t) (o : OnlyWrites mn s t) (hc : t.cur = s.cur) :
    Piece mn 0 s t := ⟨l, o, by rw [hc], by rw [hc]; rfl⟩

theorem Piece.refl {mn : Mnemonic} {s : State} (h : Ready s) : Piece mn 0 s s :=
  (Lived.refl h).piece (OnlyWrites.refl mn s) rfl

/-- Cycles without a write are a piece of any instruction. -/
theorem Ran.piece {mn : Mnemonic} {n : Nat} {s t : State} (r : Ran n s t) : Piece mn n s t where
  lived := r.lived
  only := r.frame.cpu.onlyWrites fun _ => r.frame.mem
  opcode := by rw [r.cur]
  cycles := by rw [r.cur]

section updates
variable {mn : Mnemonic} {s : State} (h : Ready s)
include h

theorem setA_piece (hw : mn ∈ aWriters) (v : Byte) : Piece mn 0 s (s.setA v) :=
  (setA_lived h v).piece { OnlyWrites.refl mn s with a := fun hn => absurd hw hn } rfl

theorem setX_piece (hw : mn ∈ xWriters) (v : Byte) : Piece mn 0 s (s.setX v) :=
  (setX_lived h v).piece { OnlyWrites.refl mn s with x := fun hn => absurd hw hn } rfl

theorem setY_piece (hw : mn ∈ yWriters) (v : Byte) : Piece mn 0 s (s.setY v) :=
  (setY_lived h v).piece { OnlyWrites.refl mn s with y := fun hn => absurd hw hn } rfl

theorem setSp_piece (hw : mn ∈ spWriters) (v : Byte) : Piece mn 0 s (s.setSp v) :=
  (setSp_lived h v).piece { OnlyWrites.refl mn s with sp := fun hn => absurd hw hn } rfl

theorem setPc_piece (hw : mn ∈ pcWriters) (v : Word) : Piece mn 0 s (s.setPc v) :=
  (setPc_lived h v).piece { OnlyWrites.refl mn s with pc := fun hn => absurd hw hn } rfl

theorem incPc_piece (hw : mn ∈ pcWriters) : Piece mn 0 s s.incPc :=
  (incPc_lived h).piece { OnlyWrites.refl mn s with pc := fun hn => absurd hw hn } rfl

theorem nextDraw_piece : Piece mn 0 s s.nextDraw :=
  (nextDraw_lived h).piece { OnlyWrites.refl mn s with } rfl

theorem setNZ_piece (hw : mn ∈ nzWriters) (v : Byte) : Piece mn 0 s (s.setNZ v) :=
  (setP_lived h _).piece { OnlyWrites.refl mn s with nz := fun hn => absurd hw hn } rfl

theorem setC_piece (hw : mn ∈ cWriters) (c : Bool) : Piece mn 0 s (s.setC c) :=
  (setP_lived h _).piece { OnlyWrites.refl mn s with c := fun hn => absurd hw hn } rfl

theorem setV_piece (hw : mn ∈ vWriters) (v : Bool) : Piece mn 0 s (s.setP { s.p with v := v }) :=
  (setP_lived h _).piece { OnlyWrites.refl mn s with v := fun hn => absurd hw hn } rfl

theorem setD_piece (hw : mn ∈ dWriters) (d : Bool) : Piece mn 0 s (s.setP { s.p with d := d }) :=
  (setP_lived h _).piece { OnlyWrites.refl mn s with d := fun hn => absurd hw hn } rfl

theorem setI_piece (hw : mn ∈ iWriters) (i : Bool) : Piece mn 0 s (s.setP { s.p with i := i }) :=
  (setP_lived h _).piece { OnlyWrites.refl mn s with i := fun hn => absurd hw hn } rfl

/-- BIT writes N, Z and V. -/
theorem testBits_piece (hw : mn ∈ nzWriters ∧ mn ∈ vWriters) (m : Byte) : Piece mn 0 s (s.testBits m) :=
  (setP_lived h _).piece
    { OnlyWrites.refl mn s with nz := fun hn => absurd hw.1 hn, v := fun hn => absurd hw.2 hn } rfl

/-- A comparison writes N, Z and C. -/
theorem compare_piece (hw : mn ∈ nzWriters ∧ mn ∈ cWriters) (r m : Byte) : Piece mn 0 s (s.compare r m) :=
  (setP_lived h _).piece
    { OnlyWrites.refl mn s with nz := fun hn => absurd hw.1 hn, c := fun hn => absurd hw.2 hn } rfl

/-- An arithmetic result is written to A, N, Z, V and C. -/
theorem setAlu_piece (hw : mn ∈ aWriters ∧ mn ∈ nzWriters ∧ mn ∈ vWriters ∧ mn ∈ cWriters) (res : AluResult) :
    Piece mn 0 s (s.setAlu res) := by
  obtain ⟨ha, hnz, hv, hc⟩ := hw
  have l : Lived s (s.setAlu res) := (setA_lived h res.r).trans (setP_lived (s := s.setA res.r) h _)
  exact l.piece { OnlyWrites.refl mn s with
    a := fun hn => absurd ha hn, nz := fun hn => absurd hnz hn, v := fun hn => absurd hv hn
    c := fun hn => absurd hc hn } rfl

/-- A pulled status byte is written to all seven flags, which PLP and RTI write. -/
theorem pulled_piece (hw : mn ∈ bWriters) (v : Byte) : Piece mn 0 s (s.setP (.pulled v)) := by
  have all : mn ∈ nzWriters ∧ mn ∈ vWriters ∧ mn ∈ dWriters ∧ mn ∈ iWriters ∧ mn ∈ cWriters := by
    simp only [bWriters, List.mem_cons, List.not_mem_nil, or_false] at hw
    rcases hw with rfl | rfl <;> decide
  obtain ⟨nz, v, d, i, c⟩ := all
  exact (setP_lived h _).piece
    { OnlyWrites.refl mn s with
      nz := fun hn => absurd nz hn, v := fun hn => absurd v hn, b := fun hn => absurd hw hn
      d := fun hn => absurd d hn, i := fun hn => absurd i hn, c := fun hn => absurd c hn } rfl

/-- A note in the record that leaves opcode and cycles alone. -/
theorem setCur_piece (c : LastResult) (ho : c.opcode = s.cur.opcode) (hc : c.cycles = s.cur.cycles) :
    Piece mn 0 s (s.setCur c) :=
  ⟨setCur_lived h c, { OnlyWrites.refl mn s with }, ho, hc⟩

theorem noteEa_piece (ea : Word) : Piece mn 0 s (s.noteEa ea) := setCur_piece h _ rfl rfl
theorem noteOperand_piece (v : Byte) : Piece mn 0 s (s.noteOperand v) := setCur_piece h _ rfl rfl
theorem notePageCrossed_piece (x : Bool) : Piece mn 0 s (s.notePageCrossed x) := setCur_piece h _ rfl rfl
theorem noteBug_piece (bug : Bug) : Piece mn 0 s (s.noteBug bug) := setCur_piece h _ rfl rfl

/-- The flags of a shift: C, then N and Z. -/
theorem shiftFlags_piece (hw : mn ∈ cWriters ∧ mn ∈ nzWriters) (c : Bool) (v : Byte) :
    Piece mn 0 s (shiftFlags c v s) := (setC_piece h hw.1 c).update fun hu => setNZ_piece hu hw.2 v

/-- Cycles that run after a note in the record. -/
theorem Ran.piece_setCur {n : Nat} {c : LastResult} {t : State} (r : Ran n (s.setCur c) t)
    (ho : c.opcode = s.cur.opcode) (hc : c.cycles = s.cur.cycles) : Piece mn n s t := by
  simpa only [Nat.zero_add] using (setCur_piece h c ho hc).trans r.piece

end updates

/-! ### Sequences that complete -/

/-- The outcome is a next one, reached from s by a piece of n cycles; st takes the state from what it answers. -/
def Completes {β : Type} (st : β → State) (mn : Mnemonic) (n : Nat) (s : State)
    (o : Host.Outcome β Fault Refusal) : Prop :=
  ∃ b, o = .next b ∧ Piece mn n s (st b)

section sequences
variable {α β : Type} {sa : α → State} {sb : β → State} {mn : Mnemonic} {m n : Nat} {s : State}

theorem Completes.next {b : β} (p : Piece mn n s (sb b)) : Completes sb mn n s (.next b) := ⟨b, rfl, p⟩

/-- One sequence after another. -/
theorem Completes.bind {o : Host.Outcome α Fault Refusal} {k : α → Host.Outcome β Fault Refusal}
    (h : Completes sa mn m s o) (hk : ∀ a, Ready (sa a) → Completes sb mn n (sa a) (k a)) :
    Completes sb mn (n + m) s (andThen o k) := by
  obtain ⟨a, rfl, p⟩ := h
  obtain ⟨b, e, q⟩ := hk a p.ready
  exact ⟨b, e, Nat.add_comm m n ▸ p.trans q⟩

/-- A sequence that starts with an update. -/
theorem Completes.after {u : State} {o : Host.Outcome β Fault Refusal} (p : Piece mn 0 s u)
    (h : Ready u → Completes sb mn n u o) : Completes sb mn n s o := by
  obtain ⟨b, e, q⟩ := h p.ready
  exact ⟨b, e, by simpa only [Nat.zero_add] using p.trans q⟩

theorem memRead_completes (addr : Word) (h : Ready s) : Completes Prod.snd mn 1 s (memRead addr s) :=
  let ⟨_, _, _, e, _, r⟩ := memRead_ready addr h
  ⟨_, e, r.piece⟩

theorem dummyRead_completes (addr : Word) (h : Ready s) : Completes id mn 1 s (dummyRead addr s) :=
  let ⟨_, e, r⟩ := dummyRead_ready addr h
  ⟨_, e, r.piece⟩

theorem memWrite_completes (hw : mn ∈ memWriters) (addr : Word) (v : Byte) (h : Ready s) :
    Completes id mn 1 s (memWrite addr v s) :=
  let ⟨_, e, w, hcur⟩ := memWrite_ready addr v h
  ⟨_, e, w.lived, w.cpu.onlyWrites fun hn => absurd hw hn, by rw [id, hcur], by rw [id, hcur]⟩

theorem push_completes (hw : mn ∈ memWriters ∧ mn ∈ spWriters) (v : Byte) (h : Ready s) :
    Completes id mn 1 s (push v s) :=
  (memWrite_completes hw.1 _ v h).bind fun _ hu => .next (setSp_piece hu hw.2 _)

theorem pull_completes (hw : mn ∈ spWriters) (h : Ready s) : Completes Prod.snd mn 1 s (pull s) :=
  (memRead_completes _ h).bind fun _ hu => .next (setSp_piece hu hw _)

/-- An implied instruction takes one cycle after its fetch (40_addressing.md R141). -/
theorem impliedOp_completes {f : State → State} (hf : ∀ u, Ready u → Piece mn 0 u (f u)) (h : Ready s) :
    Completes id mn 1 s (impliedOp f s) :=
  (dummyRead_completes _ h).bind fun u hu => .next (hf u hu)

theorem pushOp_completes (hw : mn ∈ memWriters ∧ mn ∈ spWriters) (v : Byte) (h : Ready s) :
    Completes id mn 2 s (pushOp v s) :=
  (dummyRead_completes _ h).bind fun _ hu => .after (noteOperand_piece hu v) fun hu => push_completes hw v hu

theorem pullOp_completes (hw : mn ∈ spWriters) (h : Ready s) : Completes Prod.snd mn 3 s (pullOp s) :=
  (dummyRead_completes _ h).bind fun _ hu =>
  (dummyRead_completes _ hu).bind fun _ hu =>
  (pull_completes hw hu).bind fun _ hu => .next (noteOperand_piece hu _)

end sequences

section control
variable {s : State} (h : Ready s)
include h

theorem opJmp_completes (target : Word) : Completes id .jmp 0 s (opJmp target s) :=
  .next ((noteEa_piece h target).update fun hu => setPc_piece hu (by decide) _)

theorem opJmpIndirect_completes (ptr : Word) : Completes id .jmp 2 s (opJmpIndirect ptr s) :=
  (memRead_completes (mn := .jmp) _ h).bind fun _ hu =>
  (memRead_completes _ hu).bind fun _ hu =>
    .next ((noteBug_piece (mn := .jmp) hu _).update fun hu => setPc_piece hu (by decide) _)

theorem opJsr_completes (target : Word) : Completes id .jsr 4 s (opJsr target s) :=
  (dummyRead_completes (mn := .jsr) _ h).bind fun _ hu =>
  (push_completes (by decide) _ hu).bind fun _ hu =>
  (push_completes (by decide) _ hu).bind fun _ hu =>
  (memRead_completes _ hu).bind fun _ hu =>
    .next ((noteEa_piece hu _).update fun hu => setPc_piece hu (by decide) _)

theorem opRts_completes : Completes id .rts 5 s (opRts s) :=
  (dummyRead_completes (mn := .rts) _ h).bind fun _ hu =>
  (dummyRead_completes _ hu).bind fun _ hu =>
  (pull_completes (by decide) hu).bind fun _ hu =>
  (pull_completes (by decide) hu).bind fun _ hu =>
  (dummyRead_completes _ hu).bind fun _ hu =>
    .next ((setPc_piece hu (by decide) _).update fun hu => incPc_piece hu (by decide))

/-- The cycles of an interrupt that BRK takes. -/
theorem takeInterrupt_completes (vec : Word) (b : Bool) : Completes id .brk 5 s (takeInterrupt vec b s) :=
  (push_completes (mn := .brk) (by decide) _ h).bind fun _ hu =>
  (push_completes (by decide) _ hu).bind fun _ hu =>
  (push_completes (by decide) _ hu).bind fun _ hu =>
  (memRead_completes _ hu).bind fun _ hu => .after (setI_piece hu (by decide) true) fun hu =>
  (memRead_completes _ hu).bind fun _ hu => .next (setPc_piece hu (by decide) _)

theorem opBrk_completes : Completes id .brk 6 s (opBrk s) :=
  (dummyRead_completes (mn := .brk) _ h).bind fun _ hu =>
    .after (incPc_piece hu (by decide)) fun hu => takeInterrupt_completes hu _ _

theorem returnFromInterrupt_completes : Completes id .rti 3 s (returnFromInterrupt s) :=
  (pull_completes (mn := .rti) (by decide) h).bind fun _ hu => .after (pulled_piece hu (by decide) _) fun hu =>
  (pull_completes (by decide) hu).bind fun _ hu =>
  (pull_completes (by decide) hu).bind fun _ hu => .next (setPc_piece hu (by decide) _)

theorem opRti_completes : Completes id .rti 5 s (opRti s) :=
  (dummyRead_completes (mn := .rti) _ h).bind fun _ hu =>
  (dummyRead_completes _ hu).bind fun _ hu => returnFromInterrupt_completes hu

end control

/-! ### Cycles after the fetch (40_addressing.md R141 to R164) -/

/-- The mnemonics whose memory form only writes (R158); the others' reads, writes back and writes (R160). -/
def storeMnemonics : List Mnemonic := [.sta, .stx, .sty, .sax]

/-- The cycles after the fetch of an instruction without an operand. -/
def impliedCycles : Mnemonic → Nat
  | .pha | .php => 2
  | .pla | .plp => 3
  | .rts | .rti => 5
  | .brk => 6
  | .invalid => 0
  | _ => 1

/-- The cycles after the fetch, without those of a page cross and of a branch taken. -/
def effectCycles (mn : Mnemonic) : Operand → Nat
  | .implied => impliedCycles mn
  | .accumulator => 1
  | .source src => sourceCycles src
  | .memory m => addressCycles m + (indexedMode m).toNat + (if mn ∈ storeMnemonics then 1 else 3)
  | .relative _ => 0
  | .target _ => if mn = .jsr then 4 else 0
  | .pointer _ => 2

/-- An operand that is read at an address with a partial sum (R155). -/
def indexedSource : Operand → Bool
  | .source (.memory m) => indexedMode m
  | _ => false

/-- The operand of a branch. -/
def isOffset : Operand → Bool
  | .relative _ => true
  | _ => false

/-- The cycles over effectCycles, by whether a page was crossed (R162, R163; 46_control.md R250). -/
structure ExtraCycles (o : Operand) (crossed : Bool) (k : Nat) : Prop where
  read   : isOffset o = false → k = (indexedSource o && crossed).toNat
  branch : isOffset o = true → k ≤ 2 ∧ (k = 2 ↔ crossed = true)

/-- What the execution of an instruction with this mnemonic and operand does. -/
def Executed (mn : Mnemonic) (o : Operand) (s t : State) : Prop :=
  ∃ k, Piece mn (effectCycles mn o + k) s t ∧ (s.cur.pageCrossed = false → ExtraCycles o t.cur.pageCrossed k)

/-- The outcome is a next state, which such an execution reaches. -/
abbrev Runs (mn : Mnemonic) (o : Operand) (s : State) (out : Out) : Prop := ∃ t, out = .next t ∧ Executed mn o s t

/-- An execution with no cycles over effectCycles. -/
theorem Piece.executed {mn : Mnemonic} {o : Operand} {s t : State} (p : Piece mn (effectCycles mn o) s t)
    (hx : ∀ crossed, ExtraCycles o crossed 0) : Executed mn o s t := ⟨0, p, fun _ => hx _⟩

/-- No cycles more for an operand that is neither a branch's nor read at an indexed address. -/
theorem ExtraCycles.zero {o : Operand} (h : isOffset o = false) (hi : indexedSource o = false)
    (crossed : Bool) : ExtraCycles o crossed 0 :=
  ⟨fun _ => by rw [hi]; rfl, fun e => by rw [h] at e; cases e⟩

section forms
variable {mn : Mnemonic} {s : State}

theorem Completes.runs {o : Operand} {out : Out} (h : Completes id mn (effectCycles mn o) s out)
    (ho : isOffset o = false := by rfl) (hi : indexedSource o = false := by rfl) : Runs mn o s out :=
  let ⟨t, e, p⟩ := h
  ⟨t, e, p.executed (.zero ho hi)⟩

/-- A READ instruction with the operation f: one cycle more when its address crosses a page (R155). -/
theorem readOp_runs {f : Byte → State → State} (src : Source) (hf : ∀ v u, Ready u → Piece mn 0 u (f v u))
    (hc : ∀ v u, (f v u).cur = u.cur) (h : Ready s) : Runs mn (.source src) s (readOp src f s) := by
  obtain ⟨v, u, c, crossed, e, r, hn, hx⟩ := readSource_ready src h
  refine ⟨f v u, by simp only [readOp, e, andThen_next], crossed.toNat,
    (r.piece_setCur h hn.opcode hn.cycles).update (hf v u), fun hp => ⟨fun _ => ?_, nofun⟩⟩
  have hcrossed : (f v u).cur.pageCrossed = crossed := by rw [hc, r.cur]; exact hn.crossed hp
  rw [hcrossed]
  cases crossed with
  | false => rw [Bool.and_false]
  | true =>
    obtain ⟨m, rfl, hm⟩ := hx rfl
    simp only [indexedSource, hm, Bool.and_true]

/-- A WRITE instruction (R158). -/
theorem writeOp_runs (m : MemMode) (v : Byte) (hs : mn ∈ storeMnemonics) (hw : mn ∈ memWriters) (h : Ready s) :
    Runs mn (.memory m) s (writeOp m v s) := by
  obtain ⟨ad, -, -, t, -, -, -, e, w, hi, c, hn, hcur⟩ := writeOp_ready m v h
  have p : Piece mn (effectCycles mn (.memory m)) s t := by
    refine ⟨w.lived, w.cpu.onlyWrites fun hn => absurd hw hn, by rw [hcur]; exact hn.opcode, ?_⟩
    rw [hcur, hi]
    simp only [effectCycles, if_pos hs]
    omega
  exact ⟨t, e, p.executed (.zero rfl rfl)⟩

/-- An RMW instruction that writes f's value and then does g (R160). -/
theorem rmwOp_runs {f : Byte → Byte} {g : Byte → State → State} (m : MemMode) (hs : mn ∉ storeMnemonics)
    (hw : mn ∈ memWriters) (hg : ∀ v u, Ready u → Piece mn 0 u (g v u)) (h : Ready s) :
    Runs mn (.memory m) s (rmwOp m f g s) := by
  obtain ⟨ad, s1, c1, e1, r1, rfl, hi, hx⟩ := resolve_ready m h
  obtain ⟨s2, c2, e2, r2, hn⟩ := indexedDummy_ready ad r1.ready hx
  have phase : Completes Prod.snd mn (3 + ad.indexed.toNat) s1 (rmwPhase ad f s1) :=
    Completes.bind (sa := id) ⟨s2, e2, r2.piece_setCur r1.ready hn.opcode hn.cycles⟩ fun _ hu =>
    (memRead_completes _ hu).bind fun _ hu => .after (noteOperand_piece hu _) fun hu =>
    (memWrite_completes hw _ _ hu).bind fun _ hu =>
    (memWrite_completes hw _ _ hu).bind fun _ hu => .next (Piece.refl hu)
  obtain ⟨r, e, p⟩ := phase
  have q := ((r1.piece_setCur h rfl rfl).trans p).update (hg r.1 r.2)
  have hn : addressCycles m + (3 + ad.indexed.toNat) = effectCycles mn (.memory m) := by
    simp only [effectCycles, if_neg hs, hi]
    omega
  exact ⟨g r.1 r.2, by simp only [rmwOp, e1, e, andThen_next], Piece.executed (hn ▸ q) (.zero rfl rfl)⟩

/-- A branch: no cycle more when it is not taken, one when it is, two when it leaves its page (46_control.md R250). -/
theorem opBranch_runs (hw : mn ∈ pcWriters) (cond : Bool) (off : Byte) (h : Ready s) :
    Runs mn (.relative off) s (opBranch cond off s) := by
  cases cond with
  | false => exact ⟨s, rfl, 0, Piece.refl h, fun hp => ⟨nofun, fun _ => by simp [hp]⟩⟩
  | true =>
    obtain ⟨u, e, r⟩ := dummyRead_ready s.pc h
    simp only [opBranch, if_true, e, andThen_next]
    split
    · refine ⟨_, rfl, 1, r.piece.update fun hu => setPc_piece hu hw _, fun hp => ⟨nofun, fun _ => ?_⟩⟩
      have : u.cur.pageCrossed = false := by rw [r.cur]; exact hp
      simp [this]
    · obtain ⟨w, e2, r2⟩ := dummyRead_ready (word (hiByte u.pc) (loByte (u.pc + sext16 off))) r.ready
      rw [e2, andThen_next]
      exact ⟨_, rfl, 2, ((r.trans r2).piece.update fun hu => setPc_piece hu hw _).update
        fun hu => notePageCrossed_piece hu true, fun _ => ⟨nofun, fun _ => by simp⟩⟩

end forms

/-! ### Every instruction -/

section loads
variable {mn : Mnemonic} {s : State} (h : Ready s)
include h

theorem setA_setNZ_piece (hw : mn ∈ aWriters ∧ mn ∈ nzWriters) (v w : Byte) : Piece mn 0 s ((s.setA v).setNZ w) :=
  (setA_piece h hw.1 v).update fun hu => setNZ_piece hu hw.2 w

theorem setX_setNZ_piece (hw : mn ∈ xWriters ∧ mn ∈ nzWriters) (v w : Byte) : Piece mn 0 s ((s.setX v).setNZ w) :=
  (setX_piece h hw.1 v).update fun hu => setNZ_piece hu hw.2 w

theorem setY_setNZ_piece (hw : mn ∈ yWriters ∧ mn ∈ nzWriters) (v w : Byte) : Piece mn 0 s ((s.setY v).setNZ w) :=
  (setY_piece h hw.1 v).update fun hu => setNZ_piece hu hw.2 w

end loads

/-- Whatever operation an instruction runs, it completes from between two cycles, unless it is the invalid opcodes'. -/
theorem Meaning.runs {op : Byte} {mn : Mnemonic} {o : Operand} {run : State → Out} (hm : Meaning op mn o run)
    (hv : mn ≠ .invalid) {s : State} (h : Ready s) : Runs mn o s (run s) := by
  cases hm with
  -- READ instructions
  | adc | sbc | arr => exact readOp_runs _ (fun _ _ hu => setAlu_piece hu (by decide) _) (fun _ _ => rfl) h
  | and | ora | eor | lda => exact readOp_runs _ (fun _ _ hu => setA_setNZ_piece hu (by decide) _ _) (fun _ _ => rfl) h
  | ldx => exact readOp_runs _ (fun _ _ hu => setX_setNZ_piece hu (by decide) _ _) (fun _ _ => rfl) h
  | ldy => exact readOp_runs _ (fun _ _ hu => setY_setNZ_piece hu (by decide) _ _) (fun _ _ => rfl) h
  | bit => exact readOp_runs _ (fun _ _ hu => testBits_piece hu (by decide) _) (fun _ _ => rfl) h
  | cmp | cpx | cpy => exact readOp_runs _ (fun _ _ hu => compare_piece hu (by decide) _ _) (fun _ _ => rfl) h
  | lax =>
    exact readOp_runs _
      (fun _ _ hu => (setA_piece hu (by decide) _).update fun hu => setX_setNZ_piece hu (by decide) _ _)
      (fun _ _ => rfl) h
  | anc | alr =>
    exact readOp_runs _
      (fun _ _ hu => (setA_setNZ_piece hu (by decide) _ _).update fun hu => setC_piece hu (by decide) _)
      (fun _ _ => rfl) h
  | axs =>
    exact readOp_runs _
      (fun _ _ hu => (setX_setNZ_piece hu (by decide) _ _).update fun hu => setC_piece hu (by decide) _)
      (fun _ _ => rfl) h
  | xaa =>
    exact readOp_runs _
      (fun _ _ hu => (setA_setNZ_piece hu (by decide) _ _).update fun hu => nextDraw_piece hu) (fun _ _ => rfl) h
  | nop => exact readOp_runs _ (fun _ _ hu => .refl hu) (fun _ _ => rfl) h
  -- RMW and WRITE instructions
  | inc | dec => exact rmwOp_runs _ (by decide) (by decide) (fun _ _ hu => setNZ_piece hu (by decide) _) h
  | asl | lsr | rol | ror =>
    exact rmwOp_runs _ (by decide) (by decide) (fun _ _ hu => shiftFlags_piece hu (by decide) _ _) h
  | dcp => exact rmwOp_runs _ (by decide) (by decide) (fun _ _ hu => compare_piece hu (by decide) _ _) h
  | isc => exact rmwOp_runs _ (by decide) (by decide) (fun _ _ hu => setAlu_piece hu (by decide) _) h
  | slo =>
    exact rmwOp_runs _ (by decide) (by decide)
      (fun _ _ hu => (setC_piece hu (by decide) _).update fun hu => setA_setNZ_piece hu (by decide) _ _) h
  | sta | stx | sty | sax => exact writeOp_runs _ _ (by decide) (by decide) h
  -- instructions on registers
  | txa | tya => exact (impliedOp_completes (fun _ hu => setA_setNZ_piece hu (by decide) _ _) h).runs
  | inx | dex | tax | tsx => exact (impliedOp_completes (fun _ hu => setX_setNZ_piece hu (by decide) _ _) h).runs
  | iny | dey | tay => exact (impliedOp_completes (fun _ hu => setY_setNZ_piece hu (by decide) _ _) h).runs
  | txs => exact (impliedOp_completes (fun _ hu => setSp_piece hu (by decide) _) h).runs
  | clc | sec => exact (impliedOp_completes (fun _ hu => setC_piece hu (by decide) _) h).runs
  | cli | sei => exact (impliedOp_completes (fun _ hu => setI_piece hu (by decide) _) h).runs
  | cld | sed => exact (impliedOp_completes (fun _ hu => setD_piece hu (by decide) _) h).runs
  | clv => exact (impliedOp_completes (fun _ hu => setV_piece hu (by decide) _) h).runs
  | nopImplied => exact (impliedOp_completes (fun _ hu => .refl hu) h).runs
  | aslAcc | lsrAcc | rolAcc | rorAcc =>
    exact (impliedOp_completes
      (fun _ hu => (shiftFlags_piece hu (by decide) _ _).update fun hu => setA_piece hu (by decide) _) h).runs
  -- the stack and control
  | pha | php => exact (pushOp_completes (by decide) _ h).runs
  | pla => exact ((pullOp_completes (by decide) h).bind fun _ hu => .next (setA_setNZ_piece hu (by decide) _ _)).runs
  | plp => exact ((pullOp_completes (by decide) h).bind fun _ hu => .next (pulled_piece hu (by decide) _)).runs
  | rts => exact (opRts_completes h).runs
  | brk => exact (opBrk_completes h).runs
  | rti => exact (opRti_completes h).runs
  | bcc | bcs | beq | bne | bmi | bpl | bvc | bvs => exact opBranch_runs (by decide) _ _ h
  | jmp => exact (opJmp_completes h _).runs
  | jmpIndirect => exact (opJmpIndirect_completes h _).runs
  | jsr => exact (opJsr_completes h _).runs
  | invalid => exact absurd rfl hv

/-- An instruction that the hardware admits completes from between two cycles (30_encoding.md R115). -/
theorem exec_runs {i : Instr} {s : State} (hv : i.mnemonic ≠ .invalid) (h : Ready s) :
    Runs i.mnemonic i.operand s (exec i s) := (exec_meaning i).runs hv h

theorem Meaning.eq_invalidOpcode {op : Byte} {o : Operand} {run : State → Out} (hm : Meaning op .invalid o run) :
    run = invalidOpcode op := by
  cases hm
  rfl

/-- An instruction of an invalid opcode raises that fault (60_exceptions.md R301). -/
theorem exec_invalid {i : Instr} (hv : i.mnemonic = .invalid) : exec i = invalidOpcode i.opcode :=
  Meaning.eq_invalidOpcode (hv ▸ exec_meaning i)

/-- Whatever instruction answers a next state has been executed: the invalid ones fault. -/
theorem exec_executed {i : Instr} {s t : State} (h : Ready s) (e : exec i s = .next t) :
    Executed i.mnemonic i.operand s t := by
  have hv : i.mnemonic ≠ .invalid := by
    intro hv
    rw [exec_invalid hv] at e
    cases e
  obtain ⟨t', e', hx⟩ := exec_runs hv h
  rw [e] at e'
  cases e'
  exact hx

/-- Settles O38: an instruction is a chain of pieces, and no piece writes what its mnemonic is no writer of. -/
theorem onlyListedInstructionsWrite : Obligations.OnlyListedInstructionsWrite := by
  unfold Obligations.OnlyListedInstructionsWrite
  intro i s t h e
  obtain ⟨k, ⟨-, only, -, -⟩, -⟩ := exec_executed h e
  exact ⟨fun hne => by_contra fun hn => hne.elim (absurd (only.nz hn).1) (absurd (only.nz hn).2),
    fun hne => by_contra fun hn => hne (only.v hn),
    fun hne => by_contra fun hn => hne (only.b hn),
    fun hne => by_contra fun hn => hne (only.d hn),
    fun hne => by_contra fun hn => hne (only.i hn),
    fun hne => by_contra fun hn => hne (only.c hn),
    fun hne => by_contra fun hn => hne (only.a hn),
    fun hne => by_contra fun hn => hne (only.x hn),
    fun hne => by_contra fun hn => hne (only.y hn),
    fun hne => by_contra fun hn => hne (only.sp hn),
    fun hne => by_contra fun hn => hne (only.pc hn),
    fun hne => by_contra fun hn => hne (only.mem hn)⟩

/-! ### The rows of the opcode map (30_encoding.md R110, R114, R117) -/

/-- The map's cycle count is that of the fetch and of the effect. -/
theorem rowOf_cycles (i : Instr) :
    (rowOf i.opcode).cycles = fetchCycles i + effectCycles i.mnemonic i.operand := by
  cases i <;> dsimp only [Instr.mnemonic, Instr.opcode, Instr.operand, fetchCycles, encode] <;> rfl

/-- The page-sensitive rows are those whose operand is read at an indexed address. -/
theorem rowOf_pageSensitive (i : Instr) : (rowOf i.opcode).pageSensitive = indexedSource i.operand := by
  cases i <;> dsimp only [Instr.opcode, Instr.operand] <;> rfl

/-- The rows of relative mode are the branches'. -/
theorem rowOf_mode_relative (i : Instr) : (rowOf i.opcode).mode = .relative ↔ isOffset i.operand = true := by
  cases i <;> dsimp only [Instr.opcode, Instr.operand, isOffset] <;> decide

/-! ### Fetching (40_addressing.md R140, R142) -/

/-- The opcode fetch starts the record of the instruction at PC. -/
theorem fetchOpcode_cur {s : State} (h : Ready s) :
    ∃ op t, fetchOpcode s = .next (op, t) ∧ Ready t ∧
      t.cur = { LastResult.blank with address := s.pc, opcode := op, defn := some (rowOf op), cycles := 1 } := by
  obtain ⟨s1, t, -, e, -, r⟩ := fetchByte_ready (show Ready (startRecord s) from h)
  generalize readValue _ s1 = op at e
  refine ⟨op, t.setCur { t.cur with opcode := op, defn := some (rowOf op) },
    by simp only [fetchOpcode, e, andThen_next], r.ready, ?_⟩
  rw [State.setCur_cur, r.cur]
  rfl

/-- One more byte fetched is one more cycle in the record. -/
theorem fetchByte_cur {s : State} (h : Ready s) :
    ∃ v t, fetchByte s = .next (v, t) ∧ Ready t ∧ t.cur = { s.cur with cycles := s.cur.cycles + 1 } :=
  let ⟨_, t, _, e, _, r⟩ := fetchByte_ready h
  ⟨_, t, e, r.ready, r.cur⟩

/-- The cycles that a shape's operand bytes take. -/
def operandFetches : Shape → Nat
  | .bare _ => 0
  | .byte _ | .call _ => 1
  | .word _ | .jump _ => 2

/-- Fetching operand bytes counts a cycle for each, and gives an instruction that the shape builds. -/
theorem fetchOperands_cur {op : Byte} {s : State} (sh : Shape) (hb : sh.builds op) (h : Ready s) :
    ∃ i t, fetchOperands sh s = .next (i, t) ∧ Ready t ∧ i.opcode = op ∧
      t.cur = { s.cur with cycles := s.cur.cycles + operandFetches sh } := by
  cases sh with
  | bare i => exact ⟨i, s, rfl, h, hb.1, rfl⟩
  | byte f =>
    obtain ⟨b1, t, e, ht, hc⟩ := fetchByte_cur h
    exact ⟨f b1, t, by simp only [fetchOperands, e, andThen_next], ht, (hb _).1, hc⟩
  | word f =>
    obtain ⟨b1, t, e, ht, hc⟩ := fetchByte_cur h
    obtain ⟨b2, u, e2, hu, hc2⟩ := fetchByte_cur ht
    exact ⟨f (word b2 b1), u, by simp only [fetchOperands, e, e2, andThen_next], hu, (hb _).1, by rw [hc2, hc]; rfl⟩
  | jump f =>
    obtain ⟨b1, t, e, ht, hc⟩ := fetchByte_cur h
    obtain ⟨_, u, -, e2, -, r⟩ := memRead_ready t.pc ht
    exact ⟨f _, u, by simp only [fetchOperands, e, e2, andThen_next]; rfl, r.ready, (hb _).1, by rw [r.cur, hc]; rfl⟩
  | call f =>
    obtain ⟨b1, t, e, ht, hc⟩ := fetchByte_cur h
    exact ⟨f (word (busRead t.pc t).1 b1), t, by simp only [fetchOperands, e, andThen_next], ht, (hb _).1, hc⟩

/-- An instruction's fetch cycles are those of its opcode and of its shape's operand bytes. -/
theorem fetchCycles_eq (i : Instr) : fetchCycles i = 1 + operandFetches (entryOf i.opcode).shape := by
  cases i <;> dsimp only [Instr.opcode, Instr.operand, fetchCycles, encode] <;> rfl

/-- The record after the fetch of an instruction. -/
theorem fetchInstr_cur {s t : State} {i : Instr} (h : Ready s) (e : fetchInstr s = .next (i, t)) :
    Ready t ∧ t.cur = { LastResult.blank with
      address := s.pc, opcode := i.opcode, defn := some (rowOf i.opcode), cycles := fetchCycles i } := by
  obtain ⟨op, u, e1, hu, hc⟩ := fetchOpcode_cur h
  obtain ⟨i', t', e2, ht, rfl, hc2⟩ := fetchOperands_cur (entryOf op).shape (entryOf_builds op) hu
  simp only [fetchInstr, e1, e2, andThen_next] at e
  cases e
  refine ⟨ht, ?_⟩
  rw [hc2, hc, fetchCycles_eq]

/-! ### One step (64_scheduler.md R494) -/

/-- A step without an interrupt fetches an instruction, executes it, closes the record and drains the stall. -/
theorem step_eq_next {s t : State} (hf : s.fault = none) (hn : NoInterrupt s) (e : step s = .next t) :
    ∃ i s1 s2, fetchInstr (startStep s) = .next (i, s1) ∧ exec i s1 = .next s2 ∧ stall (closeRecord s2) = .next t := by
  simp only [step, hf, atBoundary, startStep_nmiPending, hn.1, show irqDue (startStep s) = false from hn.2,
    Bool.false_eq_true, if_false, runInstr] at e
  obtain ⟨u, eu, e⟩ := andThen_eq_next.1 e
  obtain ⟨r, er, eu⟩ := andThen_eq_next.1 eu
  obtain ⟨v, ev, eu⟩ := andThen_eq_next.1 eu
  cases eu
  exact ⟨r.1, r.2, v, er, ev, e⟩

/-- The drain of stall cycles changes no last result. -/
theorem stall_last {s t : State} (h : Ready s) (e : stall s = .next t) : t.last = s.last := by
  obtain ⟨t', e', l⟩ := stall_lived h
  rw [e] at e'
  cases e'
  exact l.last

/-- Settles O11: the record counts the fetch's cycles and the effect's, and those are the map's; what is over is the
page-cross cycle or the branch cycles. -/
theorem cyclesAreTheTablesCycles : Obligations.CyclesAreTheTablesCycles := by
  unfold Obligations.CyclesAreTheTablesCycles
  intro s t hs hn e
  obtain ⟨i, s1, s2, ef, ee, es⟩ := step_eq_next hs.noFault hn e
  obtain ⟨h1, hcur⟩ := fetchInstr_cur (show Ready (startStep s) from hs.ready) ef
  obtain ⟨k, p, hk⟩ := exec_executed h1 ee
  have extra := hk (by rw [hcur]; rfl)
  have hlast : t.last = (closeRecord s2).last := stall_last (show Ready (closeRecord s2) from p.ready) es
  have hop : t.last.opcode = i.opcode := by rw [hlast, closeRecord_last, p.opcode, hcur]
  have hcross : t.last.pageCrossed = s2.cur.pageCrossed := by rw [hlast, closeRecord_last]
  have hcycles : t.last.cycles = (rowOf i.opcode).cycles + k := by
    rw [hlast, closeRecord_last, p.cycles, hcur, rowOf_cycles, Nat.add_assoc]
  rw [hop, hcross, hcycles, rowOf_pageSensitive]
  refine ⟨fun hm => ?_, fun hm => ?_⟩
  · rw [extra.read (Bool.eq_false_iff.2 fun ho => hm ((rowOf_mode_relative i).2 ho))]
  · obtain ⟨hle, hiff⟩ := extra.branch ((rowOf_mode_relative i).1 hm)
    exact ⟨k, hle, rfl, hiff⟩

/-! ### The invariant -/

/-- What holds throughout a step, between any two cycles of it. -/
structure Sound (s : State) : Prop where
  ready   : Ready s
  chips   : ChipsOk s
  mem     : s.mem.wf = true
  noFault : s.fault = none

theorem Sound.lived {s t : State} (h : Sound s) (l : Lived s t) : Sound t :=
  ⟨l.ready, l.chips h.chips, l.mem h.mem, l.fault.trans h.noFault⟩

theorem Inv.sound {s : State} (h : Inv s) : Sound s := ⟨h.ready, ⟨h.tia, h.riot⟩, h.mem, h.noFault⟩

theorem runInstr_sound {s t : State} (h : Sound s) (e : runInstr s = .next t) : Sound t := by
  obtain ⟨i, s1, e1, l1⟩ := fetchInstr_lived h.ready
  simp only [runInstr, e1, andThen_next] at e
  obtain ⟨s2, e2, e⟩ := andThen_eq_next.1 e
  cases e
  obtain ⟨k, p, -⟩ := exec_executed l1.ready e2
  obtain ⟨ready, chips, mem, noFault⟩ := (h.lived l1).lived p.lived
  exact ⟨ready, chips, mem, noFault⟩

theorem interruptEntry_sound {s t : State} {vec : Word} (h : Sound s) (e : interruptEntry vec s = .next t) :
    Sound t := by
  obtain ⟨t', e', l⟩ := interruptEntry_lived vec h.ready
  rw [e] at e'
  cases e'
  exact h.lived l

theorem atBoundary_sound {s t : State} (h : Sound s) (e : atBoundary s = .next t) : Sound t := by
  unfold atBoundary at e
  split at e
  · exact interruptEntry_sound (s := { s with nmiPending := false }) ⟨h.ready, h.chips, h.mem, h.noFault⟩ e
  · split at e
    · exact interruptEntry_sound h e
    · exact runInstr_sound h e

/-- The drain at the end of a step leaves the invariant of step boundaries (64_scheduler.md R494). -/
theorem stall_inv {s t : State} (h : Sound s) (e : stall s = .next t) : Inv t := by
  obtain ⟨t', e', r, rdy, halted, -⟩ := stall_ready h.ready
  rw [e] at e'
  cases e'
  obtain ⟨ready, ⟨tia, riot⟩, mem, noFault⟩ := h.lived r.lived
  exact ⟨ready, tia, riot, mem, rdy, halted, noFault⟩

/-- Settles O7: what starts at the boundary keeps what holds between cycles, and the drain does the rest. -/
theorem everyStepKeepsTheInvariant : Obligations.EveryStepKeepsTheInvariant := by
  unfold Obligations.EveryStepKeepsTheInvariant
  intro s t h e
  have hs : Sound (startStep s) := ⟨h.ready, ⟨h.tia, h.riot⟩, h.mem, h.noFault⟩
  simp only [step, h.noFault] at e
  obtain ⟨u, eu, e⟩ := andThen_eq_next.1 e
  exact stall_inv (atBoundary_sound hs eu) e

/-! ### Reset (70_reset_and_hazards.md R520, R522) -/

/-- A reset of a plain cartridge: PC is its vector, its image stays. -/
theorem resetMachine_rom {s : State} (h : s.cart = .rom) :
    (resetMachine s).pc = word (Memory.read s.mem 0x1FFD) (Memory.read s.mem 0x1FFC) ∧
      ∀ k, 0x1000 ≤ k → Memory.read (resetMachine s).mem k = Memory.read s.mem k := by
  refine ⟨?_, fun k hk => read_romPart s.mem hk⟩
  have pc : (resetMachine s).pc =
      word (Cart.value .rom (romPart s.mem) 0xFFD) (Cart.value .rom (romPart s.mem) 0xFFC) := by
    simp only [resetMachine, loadResetVector, State.setPc_pc, h, Cart.afterRead]
  rw [pc, ← read_romPart s.mem (by decide : 0x1000 ≤ 0x1FFD), ← read_romPart s.mem (by decide : 0x1000 ≤ 0x1FFC)]
  rfl

/-- A reset of a host's cartridge: the second vector read sees what the first did (log 22). -/
theorem resetMachine_host {s : State} {n : Nat} (h : s.cart = .host n) :
    (resetMachine s).pc = word (Config.cartRead (Config.cartRead n 0xFFC).2 0xFFD).1 (Config.cartRead n 0xFFC).1 ∧
      (resetMachine s).cart = .host (Config.cartRead (Config.cartRead n 0xFFC).2 0xFFD).2 := by
  constructor <;> simp only [resetMachine, loadResetVector, State.setPc_pc, State.setPc_cart, State.setCart_cart, h,
    Cart.afterRead, Cart.value]

/-- A byte of an attached image stands in the cartridge's window. -/
theorem read_attachRom (s : State) {bytes : List Byte} (h : bytes.length = 4096) {k : Nat} (hk : k < 4096) :
    Memory.read (attachRom bytes s).mem (0x1000 + k) = bytes.getD k 0 := by
  have hr := read_romImage bytes 0 k (by omega) (by omega)
  rw [Nat.zero_add] at hr
  rw [← hr]
  exact read_romPart (romImage 0 bytes) (by omega)

/-- Settles O60: what R520 and R75 fix are fields that resetMachine sets, and attaching is a reset with the cartridge in
the slot; what is left is the vector and the image. -/
theorem resetValues : Obligations.ResetValues := by
  unfold Obligations.ResetValues
  intro s
  refine ⟨?_, fun h _ => resetMachine_rom h, fun bytes h => ?_, fun n h => resetMachine_host h,
    fun n => resetMachine_host (s := { s with cart := .host n, mem := [] }) rfl⟩
  · rintro t (rfl | rfl | ⟨bytes, rfl⟩ | ⟨n, rfl⟩) <;> and_intros <;> rfl
  · obtain ⟨hpc, himage⟩ := resetMachine_rom (s := { s with cart := .rom, mem := romImage 0 bytes }) rfl
    refine ⟨rfl, romPart_wf (romImage_wf bytes 0), ?_, fun k hk => read_attachRom s h hk⟩
    rw [← read_attachRom s h (by decide : 0xFFD < 4096), ← read_attachRom s h (by decide : 0xFFC < 4096)]
    exact hpc.trans (by rw [← himage 0x1FFD (by decide), ← himage 0x1FFC (by decide)]; rfl)

end Sys2Proof.Machine
end

section
/-! PROOFS of the family 20_memory.md: where the chip select sends an address, the register selects of the RIOT, and
what one write cycle does to memory and to the chips. The chip and register selects are read off the address as a
number; a cycle is taken apart into its access, the RIOT step and the three colour clocks of its tick. -/

namespace Sys2Proof.Machine

/-! ### Bits of an address as arithmetic -/

theorem getLsbD_eq_decide {n : Nat} (a : BitVec n) (i : Nat) : a.getLsbD i = decide (a.toNat / 2 ^ i % 2 = 1) :=
  Nat.testBit_eq_decide_div_mod_eq

theorem extractLsb'_zero_eq_ofNat {n : Nat} (a : BitVec n) (m : Nat) :
    a.extractLsb' 0 m = BitVec.ofNat m (a.toNat % 2 ^ m) := by
  apply BitVec.eq_of_toNat_eq
  simp

/-- The bits above 12 of a CPU address are dropped (20_memory.md R80). -/
@[simp] theorem busAddr_toNat (addr : Word) : (busAddr addr).toNat = addr.toNat % 8192 := by
  simp [busAddr]

theorem busAddr_congr {a b : Word} (h : a.toNat % 8192 = b.toNat % 8192) : busAddr a = busAddr b :=
  BitVec.eq_of_toNat_eq (by simpa using h)

/-! ### Chip select (20_memory.md R81) -/

/-- The chip select by the address as a number: bit 12 is what 4096 is for. -/
theorem chipSelect_eq (a : Addr13) : chipSelect a =
    if 4096 ≤ a.toNat then .cart (BitVec.ofNat 12 (a.toNat % 4096))
    else if a.toNat / 128 % 2 = 1 then
      if a.toNat / 512 % 2 = 1 then .riot else .ram (BitVec.ofNat 7 (a.toNat % 128))
    else .tia := by
  have := a.isLt
  have bit12 : a.toNat / 4096 % 2 = 1 ↔ 4096 ≤ a.toNat := by omega
  simp only [chipSelect, getLsbD_eq_decide, extractLsb'_zero_eq_ofNat, Nat.reducePow, decide_eq_true_eq, bit12]

section selected
variable {a : Addr13}

theorem chipSelect_cart (h : 4096 ≤ a.toNat) : chipSelect a = .cart (BitVec.ofNat 12 (a.toNat % 4096)) := by
  rw [chipSelect_eq, if_pos h]

theorem chipSelect_ram (h : a.toNat < 4096) (h7 : a.toNat / 128 % 2 = 1) (h9 : a.toNat / 512 % 2 = 0) :
    chipSelect a = .ram (BitVec.ofNat 7 (a.toNat % 128)) := by
  rw [chipSelect_eq, if_neg (by omega), if_pos h7, if_neg (by omega)]

theorem chipSelect_riot (h : a.toNat < 4096) (h7 : a.toNat / 128 % 2 = 1) (h9 : a.toNat / 512 % 2 = 1) :
    chipSelect a = .riot := by
  rw [chipSelect_eq, if_neg (by omega), if_pos h7, if_pos h9]

theorem chipSelect_tia (h : a.toNat < 4096) (h7 : a.toNat / 128 % 2 = 0) : chipSelect a = .tia := by
  rw [chipSelect_eq, if_neg (by omega), if_neg (by omega)]

end selected

/-- The addresses of page 0 and of page 1 as numbers. -/
theorem pages_toNat (b : Byte) :
    (zext16 b).toNat = b.toNat ∧ ((0x0100 : Word) + zext16 b).toNat = 256 + b.toNat := by
  have := b.isLt
  have zero : (zext16 b).toNat = b.toNat := by simp [zext16]; omega
  refine ⟨zero, ?_⟩
  rw [BitVec.toNat_add, zero]
  simp
  omega

/-- In pages 0 and 1 the upper half is RAM, each byte at its own canonical address (10_state.md R31). -/
theorem ramTarget_upper_half {addr : Word} {b : Byte} (hb : 128 ≤ b.toNat)
    (h : addr.toNat = b.toNat ∨ addr.toNat = 256 + b.toNat) : ramTarget addr = some b.toNat := by
  have := b.isLt
  have ha : (busAddr addr).toNat = addr.toNat := by rw [busAddr_toNat]; omega
  rw [ramTarget, chipSelect_ram (by omega) (by omega) (by omega)]
  simp only [ramCell, BitVec.toNat_ofNat, ha]
  exact congrArg some (by omega)

/-- In pages 0 and 1 the lower half is the TIA. -/
theorem chipSelect_lower_half {addr : Word} {b : Byte} (hb : b.toNat < 128)
    (h : addr.toNat = b.toNat ∨ addr.toNat = 256 + b.toNat) : chipSelect (busAddr addr) = .tia := by
  have ha : (busAddr addr).toNat = addr.toNat := by rw [busAddr_toNat]; omega
  exact chipSelect_tia (by omega) (by omega)

/-- Read cycles at one bus address are the same. -/
theorem memRead_congr {a b : Word} (h : busAddr a = busAddr b) (s : State) : memRead a s = memRead b s := by
  simp only [memRead, busRead, afterRead, h]

/-- Write cycles at one bus address are the same. -/
theorem memWrite_congr {a b : Word} (h : busAddr a = busAddr b) (v : Byte) (s : State) :
    memWrite a v s = memWrite b v s := by
  simp only [memWrite, busWrite, afterWrite, h]

/-- Settles O42: the select bits are ranges of the address as a number, and a cycle sees no more of an address than its
bus address. -/
theorem chipSelect_ofEveryAddress : Obligations.ChipSelect := by
  unfold Obligations.ChipSelect
  refine ⟨fun a => ⟨chipSelect_cart, chipSelect_ram, chipSelect_riot, chipSelect_tia⟩, fun b hb => ?_, fun b hb => ?_,
    fun s a b v h => ⟨memRead_congr (busAddr_congr h) s, memWrite_congr (busAddr_congr h) v s⟩⟩
  all_goals obtain ⟨page0, page1⟩ := pages_toNat b
  · exact ⟨ramTarget_upper_half hb (.inr page1), ramTarget_upper_half hb (.inl page0)⟩
  · exact ⟨chipSelect_lower_half hb (.inr page1), chipSelect_lower_half hb (.inl page0)⟩

/-! ### Cycles and their ticks (64_scheduler.md R490) -/

/-- A cycle that completes is its tick. -/
theorem runCycle_eq_next {start accessed t : State} (e : runCycle start accessed = .next t) :
    tick accessed = .next t := by
  unfold runCycle at e
  split at e
  · cases e
  · exact e

/-- A write cycle's state is the tick's from what the access leaves. -/
theorem memWrite_eq_next {s t : State} {addr : Word} {v : Byte} (e : memWrite addr v s = .next t) :
    tick (afterWrite addr v s).noteCycle = .next t := by
  obtain ⟨u, eu, e⟩ := andThen_eq_next.1 e
  unfold busWrite at eu
  split at eu
  · cases eu
  · cases eu
    exact runCycle_eq_next e

/-- A read cycle is its stall, then the access and the tick from what the access leaves. -/
theorem memRead_eq_next {s t : State} {addr : Word} {b : Byte} (e : memRead addr s = .next (b, t)) :
    ∃ s1, stall s = .next s1 ∧ b = readValue (busAddr addr) s1 ∧ tick (afterRead addr s1).noteCycle = .next t := by
  obtain ⟨s1, e1, e⟩ := andThen_eq_next.1 e
  obtain ⟨u, eu, e⟩ := andThen_eq_next.1 e
  cases e
  exact ⟨s1, e1, rfl, runCycle_eq_next eu⟩

/-- A colour clock of a tick that completes is a TIA step. -/
theorem tickTia_eq_next {service : Bool} {s t : State} (e : tickTia service s = .next t) :
    ∃ (p : Bool × Bool) (g : Signal), tiaStep service p.1 p.2 s.tia = .ok (t.tia, g) ∧ t = s.clocked t.tia g := by
  unfold tickTia at e
  split at e
  · rename_i u g eu
    cases e
    exact ⟨(_, _), g, eu, rfl⟩
  · cases e

/-- A tick that completes: the counts, the cartridge and the RIOT step, then three TIA steps. -/
theorem tick_eq_next {s t : State} (e : tick s = .next t) :
    ∃ (p1 p2 p3 : Bool × Bool) (t1 t2 : Tia) (g1 g2 g3 : Signal),
      tiaStep true p1.1 p1.2 s.tia = .ok (t1, g1) ∧ tiaStep false p2.1 p2.2 t1 = .ok (t2, g2) ∧
      tiaStep true p3.1 p3.2 t2 = .ok (t.tia, g3) ∧
      t = (((tickRiot (tickCart (countCycle s))).clocked t1 g1).clocked t2 g2).clocked t.tia g3 := by
  obtain ⟨s1, e1, e⟩ := andThen_eq_next.1 e
  obtain ⟨s2, e2, e3⟩ := andThen_eq_next.1 e
  obtain ⟨p1, g1, c1, h1⟩ := tickTia_eq_next e1
  obtain ⟨p2, g2, c2, h2⟩ := tickTia_eq_next e2
  obtain ⟨p3, g3, c3, h3⟩ := tickTia_eq_next e3
  exact ⟨p1, p2, p3, s1.tia, s2.tia, g1, g2, g3, c1, c2, c3, by rw [← h1, ← h2, ← h3]⟩

/-- What a tick does to the RIOT: one step (63_riot.md R450). -/
theorem tick_riot {s t : State} (e : tick s = .next t) : ∃ pin, t.riot = riotStep pin s.riot := by
  obtain ⟨_, _, _, _, _, _, _, _, -, -, -, ht⟩ := tick_eq_next e
  exact ⟨(Config.pinA s.draws).getLsbD 7, by rw [ht]; simp⟩

/-- With nothing in the inbox a colour clock runs alike with service and without. -/
theorem tiaStep_service_idle {t : Tia} (b4 b5 : Bool) (h : t.tags.Nodup) (hi : t.inbox = none) :
    tiaStep true b4 b5 t = tiaStep false b4 b5 t := by
  obtain ⟨u, hu, -, hin, -⟩ := clockStage_ok (queueStage_tags h)
  have empty : u.inbox = none := by rw [hin, (queueStage_sameClock t).inbox, hi]
  rw [tiaStep_eq b4 b5 hu (w := u) (by simp only [serviceStage, empty]), tiaStep_eq b4 b5 hu (w := u) rfl]

/-- The last two colour clocks of a tick serve nothing, nor does the first when no write waits. -/
theorem tick_tia {s t : State} (h : s.tia.tags.Nodup) (e : tick s = .next t) :
    ∃ (p1 p2 p3 : Bool × Bool) (t1 : Tia) (g : Signal),
      tiaStep true p1.1 p1.2 s.tia = .ok (t1, g) ∧ tiaRun [p2, p3] t1 = .ok t.tia ∧
      (s.tia.inbox = none → tiaRun [p1, p2, p3] s.tia = .ok t.tia) := by
  obtain ⟨p1, p2, p3, t1, t2, g1, g2, g3, e1, e2, e3, -⟩ := tick_eq_next e
  obtain ⟨u1, _, f1, n1, i1, -⟩ := tiaStep_first p1.1 p1.2 h
  cases e1.symm.trans f1
  obtain ⟨u2, _, f2, n2, i2, -⟩ := tiaStep_idle false p2.1 p2.2 n1 nofun
  cases e2.symm.trans f2
  rw [tiaStep_service_idle _ _ n2 (i2.trans i1)] at e3
  have rest : tiaRun [p2, p3] t1 = .ok t.tia := by simp only [tiaRun, e2, e3]
  refine ⟨p1, p2, p3, t1, g1, e1, rest, fun hi => ?_⟩
  rw [tiaStep_service_idle _ _ h hi] at e1
  rw [tiaRun, e1]
  exact rest

/-- The colour clock that serves a write: the delay queue and the counters, the write, the rest of the clock
(61_tia_clock.md R340; 62_tia_objects.md R383). -/
theorem tiaStep_serves {t u : Tia} {b4 b5 : Bool} {g : Signal} {reg : BitVec 6} {v : Byte} (h : t.tags.Nodup)
    (hi : t.inbox = some (reg, v)) (e : tiaStep true b4 b5 t = .ok (u, g)) :
    ∃ c w, clockStage (queueStage t) = .ok c ∧ tiaWrite reg v { c with inbox := none } = .ok w ∧
      u = restOfClock (b4, b5) w := by
  obtain ⟨c, hc, hn, hin, -⟩ := clockStage_ok (queueStage_tags h)
  have waits : c.inbox = some (reg, v) := by rw [hin, (queueStage_sameClock t).inbox, hi]
  obtain ⟨w, hw, -⟩ := tiaWrite_ok (t := { c with inbox := none }) reg v hn
  have served : serviceStage true c = .ok w := by simp only [serviceStage, waits, hw]
  cases e.symm.trans (tiaStep_eq b4 b5 hc served)
  exact ⟨c, w, hc, hw, rfl⟩

/-! ### Write cycles (20_memory.md R86) -/

theorem tiaAfterWrite_of_ne {a13 : Addr13} {v : Byte} {s : State} (h : chipSelect a13 ≠ .tia) :
    tiaAfterWrite a13 v s = s.tia := by
  unfold tiaAfterWrite
  split
  · contradiction
  · rfl

theorem riotAfterWrite_eq_ite (a13 : Addr13) (v : Byte) (s : State) :
    riotAfterWrite a13 v s =
      if chipSelect a13 = .riot then { s.riot with inbox := some (riotWriteReg a13, v) } else s.riot := by
  unfold riotAfterWrite
  split
  · rw [if_pos ‹_›]
  · rw [if_neg ‹_›]

/-- A TIA write goes to the register of the address's low six bits. -/
theorem busAddr_extract_six (addr : Word) :
    (busAddr addr).extractLsb' 0 6 = BitVec.ofNat 6 (addr.toNat % 64) := by
  rw [extractLsb'_zero_eq_ofNat, busAddr_toNat]
  exact congrArg _ (by omega)

section writeCycle
variable {s t : State} {addr : Word} {v : Byte}

theorem memWrite_cycleCount (e : memWrite addr v s = .next t) : t.cycleCount = s.cycleCount + 1 := by
  obtain ⟨_, _, _, _, _, _, _, _, -, -, -, ht⟩ := tick_eq_next (memWrite_eq_next e)
  rw [ht]
  simp

/-- A TIA register's write is served in the first colour clock of its tick (62_tia_objects.md R383, R492). -/
theorem memWrite_tia (h : Ready s) (e : memWrite addr v s = .next t) (hsel : chipSelect (busAddr addr) = .tia) :
    ∃ u w p1 p2 p3,
      clockStage (queueStage { s.tia with inbox := some (BitVec.ofNat 6 (addr.toNat % 64), v) }) = .ok u ∧
      tiaWrite (BitVec.ofNat 6 (addr.toNat % 64)) v { u with inbox := none } = .ok w ∧
      tiaRun [p2, p3] (restOfClock p1 w) = .ok t.tia := by
  have inbox : (afterWrite addr v s).noteCycle.tia =
      { s.tia with inbox := some (BitVec.ofNat 6 (addr.toNat % 64), v) } := by
    simp only [State.noteCycle_tia, afterWrite_tia, tiaAfterWrite, hsel, busAddr_extract_six]
  have tags : (afterWrite addr v s).noteCycle.tia.tags.Nodup := by rw [inbox]; exact h.2.2
  obtain ⟨p1, p2, p3, t1, g, e1, rest, -⟩ := tick_tia tags (memWrite_eq_next e)
  rw [inbox] at tags e1
  obtain ⟨u, w, hu, hw, rfl⟩ := tiaStep_serves tags rfl e1
  exact ⟨u, w, p1, p2, p3, hu, hw, rest⟩

/-- A write cycle that does not select the TIA runs three colour clocks of it. -/
theorem memWrite_tia_idle (h : Ready s) (e : memWrite addr v s = .next t) (hsel : chipSelect (busAddr addr) ≠ .tia) :
    ∃ p1 p2 p3, tiaRun [p1, p2, p3] s.tia = .ok t.tia := by
  have same : (afterWrite addr v s).noteCycle.tia = s.tia := tiaAfterWrite_of_ne hsel
  obtain ⟨p1, p2, p3, _, _, -, -, idle⟩ := tick_tia (by rw [same]; exact h.2.2) (memWrite_eq_next e)
  rw [same] at idle
  exact ⟨p1, p2, p3, idle h.1⟩

/-- The tick's RIOT step starts with a RIOT register's write in the inbox (63_riot.md R450). -/
theorem memWrite_riot (e : memWrite addr v s = .next t) :
    ∃ pin, t.riot = riotStep pin
      (if chipSelect (busAddr addr) = .riot then { s.riot with inbox := some (riotWriteReg (busAddr addr), v) }
        else s.riot) := by
  obtain ⟨pin, hr⟩ := tick_riot (memWrite_eq_next e)
  exact ⟨pin, by rw [hr, State.noteCycle_riot, afterWrite_riot, riotAfterWrite_eq_ite]⟩

end writeCycle

/-- A read that reaches RAM answers that byte of memory. -/
theorem readValue_ram {s : State} {addr : Word} {k : Nat} (h : ramTarget addr = some k) :
    readValue (busAddr addr) s = Memory.read s.mem k := by
  unfold ramTarget at h
  split at h
  · rename_i i hsel
    cases h
    simp only [readValue, hsel]
  · cases h

/-- A read cycle at RAM answers the byte that memory holds, at every mirror (63_riot.md R451). -/
theorem memRead_ram {s : State} {addr : Word} {k : Nat} (h : Ready s) (hk : ramTarget addr = some k) :
    ∃ u, memRead addr s = .next (Memory.read s.mem k, u) := by
  obtain ⟨s1, u, -, e, r, -⟩ := memRead_ready addr h
  exact ⟨u, by rw [e, readValue_ram hk, r.frame.mem]⟩

/-- Settles O43: a write cycle is a store, and its tick serves what the access left in an inbox. -/
theorem writeCyclesStoreAndServe : Obligations.WriteCyclesStoreAndServe := by
  unfold Obligations.WriteCyclesStoreAndServe
  intro s addr v h hm
  obtain ⟨t, e, w, -⟩ := memWrite_ready addr v h
  refine ⟨t, e, w.cpu, w.stored hm, w.lived.mem hm, memWrite_cycleCount e, memWrite_tia h e, memWrite_tia_idle h e,
    memWrite_riot e, fun other k hk => ?_⟩
  obtain ⟨u, eu⟩ := memRead_ram w.ready hk
  exact ⟨_, u, eu, by rw [w.mem, read_memAfterWrite hm]⟩

/-! ### RIOT registers (20_memory.md R83) -/

/-- A read cycle that selects the RIOT, with RDY high: the byte, and the step from what the read left (R87, R90). -/
theorem memRead_riot {s : State} {addr : Word} (h : Ready s) (hrdy : s.tia.rdy = true)
    (hsel : chipSelect (busAddr addr) = .riot) :
    ∃ t pinA pinB pin, memRead addr s = .next ((riotRead (busAddr addr) pinA pinB s.riot).1, t) ∧
      t.riot = riotStep pin (riotRead (busAddr addr) pinA pinB s.riot).2 := by
  obtain ⟨_, t, -, e, -⟩ := memRead_ready addr h
  obtain ⟨s1, e1, hb, et⟩ := memRead_eq_next e
  cases (stall_rdy hrdy).symm.trans e1
  obtain ⟨pin, hr⟩ := tick_riot et
  refine ⟨t, Config.pinA s.draws, Config.pinB s.draws, pin, ?_, ?_⟩
  · rw [e, hb]
    simp only [readValue, hsel]
    rfl
  · rw [hr, State.noteCycle_riot, afterRead_riot]
    simp only [riotAfterRead, hsel]
    rfl

section registers
variable {a : Addr13} {r : Riot} {pinA pinB : Byte}

/-- Bit 2 of a register's address tells the timer and the interrupt flags from the ports. -/
theorem getLsbD_two : a.getLsbD 2 = decide (4 ≤ a.toNat % 8) := by
  rw [getLsbD_eq_decide]
  exact decide_eq_decide.2 (by omega)

theorem getLsbD_four : a.getLsbD 4 = decide (a.toNat / 16 % 2 = 1) := getLsbD_eq_decide a 4

theorem getLsbD_zero : a.getLsbD 0 = decide (a.toNat % 2 = 1) := by
  rw [getLsbD_eq_decide, Nat.pow_zero, Nat.div_one]

theorem extract_two_toNat : (a.extractLsb' 0 2).toNat = a.toNat % 4 := by simp

/-- An even register above the ports is INTIM. -/
theorem riotRead_intim (h : a.toNat % 8 = 4 ∨ a.toNat % 8 = 6) : riotRead a pinA pinB r = readIntim r := by
  have h2 : 4 ≤ a.toNat % 8 := by omega
  have h0 : ¬ a.toNat % 2 = 1 := by omega
  simp only [riotRead, getLsbD_two, getLsbD_zero, h2, h0, decide_true, decide_false, if_true, Bool.false_eq_true,
    if_false]

/-- An odd register above the ports is TIMINT. -/
theorem riotRead_timint (h : a.toNat % 8 = 5 ∨ a.toNat % 8 = 7) : riotRead a pinA pinB r = readTimint r := by
  have h2 : 4 ≤ a.toNat % 8 := by omega
  have h0 : a.toNat % 2 = 1 := by omega
  simp only [riotRead, getLsbD_two, getLsbD_zero, h2, h0, decide_true, if_true]

/-- The byte that a port register gives. -/
def portByte (n : Nat) (pinA pinB : Byte) (r : Riot) : Byte :=
  match n with
  | 0 => portValue r.ora r.ddra pinA
  | 1 => r.ddra
  | 2 => portValue r.orb r.ddrb pinB
  | _ => r.ddrb

/-- A read of a port register gives its byte and leaves the RIOT alone. -/
theorem riotRead_port {n : Nat} (h : a.toNat % 8 = n) (hn : n < 4) :
    riotRead a pinA pinB r = (portByte n pinA pinB r, r) := by
  have h2 : ¬ 4 ≤ a.toNat % 8 := by omega
  have h4 : a.toNat % 4 = n := by omega
  simp only [riotRead, getLsbD_two, extract_two_toNat, h2, h4, decide_false, Bool.false_eq_true, if_false]
  interval_cases n <;> rfl

/-- A bit of a port: the latch's where the direction bit is 1, else the pin's (63_riot.md R470). -/
theorem portValue_getLsbD (latch ddr pins : Byte) {i : Nat} (hi : i < 8) :
    (portValue latch ddr pins).getLsbD i = if ddr.getLsbD i then latch.getLsbD i else pins.getLsbD i := by
  simp only [portValue, BitVec.getLsbD_or, BitVec.getLsbD_and, BitVec.getLsbD_not, hi, decide_true, Bool.true_and]
  cases ddr.getLsbD i <;> simp

theorem readIntim_eq (r : Riot) :
    readIntim r = (r.intim, { r with expired := if r.expiredNow then r.expired else false }) := by
  cases h : r.expiredNow <;> simp [readIntim, h]

theorem readTimint_eq (r : Riot) :
    readTimint r = (BitVec.ofNat 8 (128 * r.expired.toNat + 64 * r.pa7Flag.toNat), { r with pa7Flag := false }) := by
  cases he : r.expired <;> cases hp : r.pa7Flag <;> simp [readTimint, he, hp]

/-- The write register of a port or of a direction register. -/
def portReg : Nat → RiotReg
  | 0 => .swcha
  | 1 => .swacnt
  | 2 => .swchb
  | _ => .swbcnt

theorem riotWriteReg_port {n : Nat} (h : a.toNat % 8 = n) (hn : n < 4) : riotWriteReg a = portReg n := by
  have h2 : ¬ 4 ≤ a.toNat % 8 := by omega
  have h4 : a.toNat % 4 = n := by omega
  simp only [riotWriteReg, getLsbD_two, extract_two_toNat, h2, h4, decide_false, Bool.false_eq_true, if_false]
  interval_cases n <;> rfl

/-- Without bit 4 a write above the ports selects an edge (63_riot.md R462). -/
theorem riotWriteReg_edge (h2 : 4 ≤ a.toNat % 8) (h4 : a.toNat / 16 % 2 = 0) :
    riotWriteReg a = .edge (decide (a.toNat % 2 = 1)) := by
  have h4' : ¬ a.toNat / 16 % 2 = 1 := by omega
  simp only [riotWriteReg, getLsbD_two, getLsbD_four, getLsbD_zero, h2, h4', decide_true, decide_false, if_true,
    Bool.false_eq_true, if_false]

/-- With bit 4 it loads the timer (63_riot.md R452). -/
theorem riotWriteReg_timer (h2 : 4 ≤ a.toNat % 8) (h4 : a.toNat / 16 % 2 = 1) :
    riotWriteReg a = .timer (divisorOf (a.extractLsb' 0 2)) := by
  simp only [riotWriteReg, getLsbD_two, getLsbD_four, h2, h4, decide_true, if_true]

/-- Bits 1 and 0 name the divisor. -/
theorem divisorOf_extract_two : divisorOf (a.extractLsb' 0 2) =
    if a.toNat % 4 = 0 then .d1 else if a.toNat % 4 = 1 then .d8 else if a.toNat % 4 = 2 then .d64 else .d1024 := by
  have lt : a.toNat % 4 < 4 := Nat.mod_lt _ (by decide)
  rw [divisorOf, extract_two_toNat]
  generalize a.toNat % 4 = n at lt
  interval_cases n <;> rfl

end registers

/-- Settles O58: the read cycle is its access and its tick; a register's address modulo 8, and bit 4 of a write's, name
the register. -/
theorem riotRegisters : Obligations.RiotRegisters := by
  unfold Obligations.RiotRegisters
  refine ⟨fun s a h hrdy hsel => memRead_riot h hrdy hsel, fun r a pinA pinB => ⟨fun h => ?_, fun h => ?_, fun h => ?_,
    fun h => riotRead_port h (by decide), fun h => ?_, fun h => riotRead_port h (by decide), fun v => ⟨fun h => ?_,
    fun h => ?_, fun h => ?_, fun h => ?_, fun h2 h4 => ?_, fun h2 h4 => ?_⟩⟩⟩
  -- reads
  · rw [riotRead_intim h, readIntim_eq]
  · rw [riotRead_timint h, readTimint_eq]
  · rw [riotRead_port h (by decide)]
    exact ⟨rfl, fun i hi => portValue_getLsbD _ _ _ hi⟩
  · rw [riotRead_port h (by decide)]
    exact ⟨rfl, fun i hi => portValue_getLsbD _ _ _ hi⟩
  -- writes
  · rw [riotWriteReg_port h (by decide)]; rfl
  · rw [riotWriteReg_port h (by decide)]; rfl
  · rw [riotWriteReg_port h (by decide)]; rfl
  · rw [riotWriteReg_port h (by decide)]; rfl
  · rw [riotWriteReg_edge h2 h4]; rfl
  · rw [riotWriteReg_timer h2 h4, divisorOf_extract_two]; rfl

end Sys2Proof.Machine
end

section
/-! SUPPORT. Encoding (30_encoding.md): decoding as one equation, from the width of a shape and what it makes of its
operand bytes; what encodes is what decodes. The opcode map: its invalid opcodes and the lengths by mode. -/

namespace Sys2Proof

/-- How many operand bytes a shape takes (R110). -/
def Shape.width : Shape → Nat
  | .bare _ => 0
  | .byte _ => 1
  | .word _ | .jump _ | .call _ => 2

/-- The instruction that a shape makes of operand bytes, low byte first (R111). -/
def Shape.fill : Shape → List Byte → Instr
  | .bare i, _ => i
  | .byte f, bs => f (bs.getD 0 0)
  | .word f, bs | .jump f, bs | .call f, bs => f (Sys2Proof.word (bs.getD 1 0) (bs.getD 0 0))

/-- A shape reads no byte past its width. -/
theorem Shape.fill_append (sh : Shape) {bs : List Byte} (rest : List Byte) (h : sh.width ≤ bs.length) :
    sh.fill (bs ++ rest) = sh.fill bs := by
  match sh, bs, h with
  | .bare _, _, _ => rfl
  | .byte _, _ :: _, _ => rfl
  | .word _, _ :: _ :: _, _ => rfl
  | .jump _, _ :: _ :: _, _ => rfl
  | .call _, _ :: _ :: _, _ => rfl

/-- What a shape makes of bytes has its opcode, and those bytes as its operand. -/
theorem Shape.fill_bytes {sh : Shape} {op : Byte} (hb : sh.builds op) {bs : List Byte} (h : sh.width ≤ bs.length) :
    (sh.fill bs).opcode = op ∧ (sh.fill bs).operand.bytes = bs.take sh.width := by
  match sh, bs, h with
  | .bare _, _, _ => exact hb
  | .byte _, _ :: _, _ => exact hb _
  | .word _, _ :: _ :: _, _ | .jump _, _ :: _ :: _, _ | .call _, _ :: _ :: _, _ =>
    exact ⟨(hb _).1, by rw [Shape.fill, (hb _).2, loByte_word, hiByte_word]; rfl⟩

/-- An instruction is what its cell makes of its operand bytes. -/
theorem fill_operand_bytes (i : Instr) : (entryOf i.opcode).shape.fill i.operand.bytes = i := by
  have h := entryOf_yields i
  cases hs : (entryOf i.opcode).shape <;> rw [hs] at h <;> exact h

/-- Whatever the bytes, what a shape makes of them has as many operand bytes as it takes. -/
theorem Shape.fill_bytes_length {sh : Shape} {op : Byte} (hb : sh.builds op) (bs : List Byte) :
    (sh.fill bs).operand.bytes.length = sh.width := by
  cases sh with
  | bare i => exact congrArg List.length hb.2
  | byte f | word f | jump f | call f => exact congrArg List.length (hb _).2

/-- An instruction has as many operand bytes as its cell takes. -/
theorem operand_bytes_length_eq (i : Instr) : i.operand.bytes.length = (entryOf i.opcode).shape.width := by
  rw [← Shape.fill_bytes_length (entryOf_builds i.opcode) i.operand.bytes, fill_operand_bytes]

/-- Decoding takes as many bytes after the opcode as its cell's shape does, and fails when there are fewer. -/
theorem decode_cons (op : Byte) (more : List Byte) :
    decode (op :: more) =
      if (entryOf op).shape.width ≤ more.length then
        .ok ((entryOf op).shape.fill more, more.drop (entryOf op).shape.width)
      else .error (.missingOperand op) := by
  unfold decode
  dsimp only
  generalize (entryOf op).shape = sh
  match sh, more with
  | .bare _, _ => rfl
  | .byte _, [] | .byte _, _ :: _ => rfl
  | .word _, [] | .word _, [_] | .word _, _ :: _ :: _ => rfl
  | .jump _, [] | .jump _, [_] | .jump _, _ :: _ :: _ => rfl
  | .call _, [] | .call _, [_] | .call _, _ :: _ :: _ => rfl

/-- Settles O1: the cell of the opcode takes exactly the operand bytes, and gives the instruction back from them. -/
theorem decodeInvertsEncode : Obligations.DecodeInvertsEncode := by
  unfold Obligations.DecodeInvertsEncode
  intro i rest
  have hw : (entryOf i.opcode).shape.width ≤ i.operand.bytes.length := (operand_bytes_length_eq i).ge
  rw [encode, List.cons_append, decode_cons, if_pos (by rw [List.length_append]; omega), Shape.fill_append _ _ hw,
    fill_operand_bytes, ← operand_bytes_length_eq, List.drop_left]

/-- Settles O2: the bytes read are the opcode and those its cell takes; a refusal is that there are fewer. -/
theorem decodeReadsOnlyEncodings : Obligations.DecodeReadsOnlyEncodings := by
  unfold Obligations.DecodeReadsOnlyEncodings
  intro bs
  match bs with
  | [] => exact ⟨nofun, fun e h => .inl ⟨rfl, by cases h; rfl⟩⟩
  | op :: more =>
    rw [decode_cons]
    split
    case isTrue hw =>
      refine ⟨fun i rest h => ?_, nofun⟩
      obtain ⟨hop, hbytes⟩ := Shape.fill_bytes (entryOf_builds op) hw
      cases h
      rw [encode, hop, hbytes, List.cons_append, List.take_append_drop]
    case isFalse hw =>
      refine ⟨nofun, fun e h => .inr ⟨op, more, rfl, by cases h; rfl, fun i hi => ?_⟩⟩
      rw [operand_bytes_length_eq, hi]
      omega

/-- Settles O3: each word is the encoding of its instruction, with no byte after it. -/
theorem writtenOutWordsDecode : Obligations.WrittenOutWordsDecode := by
  unfold Obligations.WrittenOutWordsDecode
  exact ⟨decodeInvertsEncode (.ldxImm 0xFF) [], decodeInvertsEncode (.stxZp 0x81) [], decodeInvertsEncode .pha [],
    decodeInvertsEncode (.adcImm 0x50) [], decodeInvertsEncode .aslAcc [], decodeInvertsEncode .clc [],
    decodeInvertsEncode (.bne 0xFE) [], decodeInvertsEncode (.jmpAbs 0xF000) [],
    decodeInvertsEncode (.jmpInd 0x10FF) [], decodeInvertsEncode (.jsr 0xF100) [],
    decodeInvertsEncode (.ancImm0B 0x80) [], decodeInvertsEncode .invalid02 []⟩

/-! ### The opcode map as a whole (30_encoding.md R110, R115, R117, R118) -/

/-- The 41 opcodes that the hardware does not admit, in the order of R118. -/
def invalidOpcodes : List Byte :=
  [0x02, 0x12, 0x22, 0x32, 0x42, 0x52, 0x62, 0x72, 0x92, 0xB2, 0xD2, 0xF2, 0x23, 0x27, 0x2F, 0x33, 0x37, 0x3B, 0x3F,
    0x43, 0x47, 0x4F, 0x53, 0x57, 0x5B, 0x5F, 0x63, 0x67, 0x6F, 0x73, 0x77, 0x7B, 0x7F, 0x93, 0x9F, 0x9B, 0x9C, 0x9E,
    0xAB, 0xBB, 0xEB]

theorem entryOf_mnemonic_invalid_iff (op : Byte) : (entryOf op).mnemonic = .invalid ↔ op ∈ invalidOpcodes := by
  revert op
  refine byte_all fun n hn => ?_
  interval_cases n <;> decide

theorem pageSensitive_iff (mode : Mode) (effect : Option Effect) : pageSensitive mode effect = true ↔
    effect = some .read ∧ (mode = .absoluteX ∨ mode = .absoluteY ∨ mode = .postIndexed) := by
  simp only [pageSensitive, Bool.and_eq_true, Bool.or_eq_true, beq_iff_eq, or_assoc]

theorem isInvalid_iff (i : Instr) : i.isInvalid = true ↔ i.mnemonic = .invalid := by
  cases i <;> dsimp only [Instr.isInvalid, Instr.mnemonic, Instr.opcode] <;> decide

theorem wellFormed_iff (i : Instr) : i.wellFormed = true ↔ i.mnemonic ≠ .invalid := by
  rw [Instr.wellFormed, Bool.not_eq_true', ← Bool.not_eq_true, isInvalid_iff]

/-- How many bytes an instruction of a mode has (R110). -/
def Mode.length : Mode → Nat
  | .implied | .opcodeOnly => 1
  | .immediate | .zeroPage | .zeroPageX | .zeroPageY | .preIndexed | .postIndexed | .relative => 2
  | .absolute | .absoluteX | .absoluteY | .indirect => 3

/-- A cell's shape takes the operand bytes of its mode. -/
theorem entryOf_width (op : Byte) : (entryOf op).shape.width + 1 = (entryOf op).mode.length := by
  revert op
  refine byte_all fun n hn => ?_
  interval_cases n <;> rfl

theorem encode_length (i : Instr) : (encode i).length = i.mode.length := by
  rw [encode, List.length_cons, operand_bytes_length_eq, entryOf_width, Instr.mode]

/-- Settles O4: the counts by running over the map, the rest cell by cell and instruction by instruction. -/
theorem opcodeMapIsAsTheRulesSay : Obligations.OpcodeMapIsAsTheRulesSay := by
  unfold Obligations.OpcodeMapIsAsTheRulesSay
  refine ⟨?_, ?_, fun op => entryOf_mnemonic_invalid_iff op, fun op => pageSensitive_iff _ _,
    fun i => ⟨wellFormed_iff i, encode_length i⟩⟩
  · rfl
  · rfl

end Sys2Proof
end

section
/-! PROOFS of the family 40_addressing.md: the address and the cycles of every mode, page crosses, READ data phases and
JMP. Addresses are compared as numbers, split into page and low byte. -/

namespace Sys2Proof

/-! ### The bytes of a word as numbers (00_scope.md R9, R15) -/

theorem hiByte_toNat (w : Word) : (hiByte w).toNat = w.toNat / 256 := by
  have := w.isLt
  rw [hiByte, BitVec.extractLsb'_toNat, Nat.shiftRight_eq_div_pow]
  omega

theorem loByte_toNat (w : Word) : (loByte w).toNat = w.toNat % 256 := by simp [loByte]

theorem word_toNat (hi lo : Byte) : (word hi lo).toNat = 256 * hi.toNat + lo.toNat := by
  have hw := hiByte_toNat (word hi lo)
  have lw := loByte_toNat (word hi lo)
  rw [hiByte_word] at hw
  rw [loByte_word] at lw
  omega

end Sys2Proof

namespace Sys2Proof.Machine

/-! ### Indexed sums (40_addressing.md R147, R150) -/

/-- A sum with the index wraps at 2^16. -/
theorem indexedAddr_ea (base : Word) (index : Byte) :
    (indexedAddr base index).ea = BitVec.ofNat 16 (base.toNat + index.toNat) := by
  apply BitVec.eq_of_toNat_eq
  rw [indexedAddr, BitVec.toNat_add, (pages_toNat index).1, BitVec.toNat_ofNat]

/-- What relates the fields of an address that a mode gives: only an indexed one crosses a page; a cross is where the
address without the carry is another, $0100 below. -/
structure AddrOk (ad : EffAddr) : Prop where
  indexed : ad.indexed = false → ad.crossed = false
  same    : ad.crossed = false → ad.uncarried = ad.ea
  carry   : ad.crossed = true → ad.ea = ad.uncarried + 0x0100

theorem directAddr_ok (ea : Word) : AddrOk (directAddr ea) := ⟨fun _ => rfl, fun _ => rfl, nofun⟩

/-- Both addresses have the low byte of the sum; their high bytes differ by the carry out of it. -/
theorem indexedAddr_ok (base : Word) (index : Byte) : AddrOk (indexedAddr base index) := by
  have hb := base.isLt
  have hx := index.isLt
  have ea : (indexedAddr base index).ea.toNat = (base.toNat + index.toNat) % 65536 := by
    rw [indexedAddr_ea, BitVec.toNat_ofNat]
  have uncarried : (indexedAddr base index).uncarried.toNat =
      256 * (base.toNat / 256) + (base.toNat % 256 + index.toNat) % 256 := by
    rw [indexedAddr, word_toNat, hiByte_toNat, BitVec.toNat_add, loByte_toNat]
  have crossed : (indexedAddr base index).crossed = true ↔
      (indexedAddr base index).ea.toNat / 256 ≠ base.toNat / 256 := by
    rw [← hiByte_toNat, ← hiByte_toNat, ne_eq, BitVec.toNat_inj]
    exact bne_iff_ne
  have page : (0x0100 : Word).toNat = 256 := rfl
  refine ⟨nofun, fun k => BitVec.eq_of_toNat_eq ?_, fun k => BitVec.eq_of_toNat_eq ?_⟩
  · have same := mt crossed.2 (ne_true_of_eq_false k)
    omega
  · have other := crossed.1 k
    rw [BitVec.toNat_add, page]
    omega

/-- An address is crossed exactly when the address without the carry is another. -/
theorem AddrOk.crossed_iff {ad : EffAddr} (h : AddrOk ad) : ad.crossed = true ↔ ad.uncarried ≠ ad.ea := by
  refine ⟨fun k e => ?_, fun hne => by_contra fun k => hne (h.same (by simpa using k))⟩
  have hea := h.carry k
  rw [e] at hea
  exact absurd (left_eq_add.1 hea) (by decide)

/-! ### Address phases (40_addressing.md R143 to R150) -/

/-- Whatever address a mode answers has no index added after its base is known, or is an indexed sum. -/
theorem addressPhase_eq_next {m : MemMode} {s t : State} {ad : EffAddr} (e : addressPhase m s = .next (ad, t)) :
    (∃ ea, ad = directAddr ea) ∨ ∃ base index, ad = indexedAddr base index := by
  cases m with
  | zeroPage | absolute => cases e; exact .inl ⟨_, rfl⟩
  | absoluteX | absoluteY => cases e; exact .inr ⟨_, _, rfl⟩
  | zeroPageX | zeroPageY => obtain ⟨u, -, e⟩ := andThen_eq_next.1 e; cases e; exact .inl ⟨_, rfl⟩
  | preIndexed =>
    obtain ⟨u, -, e⟩ := andThen_eq_next.1 e
    obtain ⟨r, -, e⟩ := andThen_eq_next.1 e
    cases e
    exact .inl ⟨_, rfl⟩
  | postIndexed => obtain ⟨r, -, e⟩ := andThen_eq_next.1 e; cases e; exact .inr ⟨_, _, rfl⟩

/-- Whatever address a mode gives, its fields agree. -/
theorem resolve_ok {m : MemMode} {s t : State} {ad : EffAddr} (e : resolve m s = .next (ad, t)) : AddrOk ad := by
  obtain ⟨r, er, e⟩ := andThen_eq_next.1 e
  cases e
  obtain ⟨ea, h⟩ | ⟨base, index, h⟩ := addressPhase_eq_next er
  · exact h ▸ directAddr_ok ea
  · exact h ▸ indexedAddr_ok base index

/-- Settles O40: an address has no index, or it is an indexed sum, whose page changes with the carry out of its low
byte. -/
theorem pageCrossIsTheCarry : Obligations.PageCrossIsTheCarry := by
  unfold Obligations.PageCrossIsTheCarry
  intro m s t ad e
  exact ⟨(resolve_ok e).crossed_iff, (resolve_ok e).carry⟩

/-- Frames do not look at the record. -/
theorem Frame.setCur {s t : State} (h : Frame s t) (c : LastResult) : Frame s (t.setCur c) :=
  ⟨⟨h.cpu.a, h.cpu.x, h.cpu.y, h.cpu.sp, h.cpu.pc, h.cpu.p, h.cpu.irqLine, h.cpu.nmiLine, h.cpu.nmiPending,
    h.cpu.fault, h.cpu.reports, h.cpu.last⟩, h.mem, h.tia, h.riot, h.rom, h.ready⟩

/-- A frame may be seen after an update that depends on the CPU alone. -/
theorem Frame.op {f : State → State} (hf : CpuOp f) {s t : State} (h : Frame s t) : Frame (f s) (f t) where
  cpu := hf.same s t h.cpu
  mem := by rw [hf.mem, hf.mem, h.mem]
  tia := by rw [hf.tia, hf.tia, h.tia]
  riot := by rw [hf.riot, hf.riot, h.riot]
  rom := by rw [hf.cart, hf.cart]; exact h.rom
  ready := by unfold Ready; rw [hf.tia, hf.riot]; exact h.ready

/-- A read cycle after others without a write answers the plain byte that stood at its address before them. -/
theorem Ran.memRead_plain {n : Nat} {s t u : State} {addr : Word} {v : Byte} (r : Ran n s t)
    (e : memRead addr t = .next (v, u)) : ∀ b, Machine.plainByte s addr = some b → v = b := by
  intro b hb
  obtain ⟨u', e', -⟩ := memRead_code r.ready (r.plainByte hb)
  cases e.symm.trans e'
  rfl

/-- Settles O39: what every mode's phase leaves is resolve_ready's; the address is read off its bus cycles. -/
theorem addressModes : Obligations.AddressModes := by
  unfold Obligations.AddressModes
  intro s m h
  obtain ⟨_, t, c, e, r, rfl, hi, -⟩ := resolve_ready m h
  have cycles : t.cur.cycles = s.cur.cycles + addressCycles m := by rw [r.cur]; rfl
  obtain ⟨⟨ad, u⟩, eu, en⟩ := andThen_eq_next.1 e
  cases en
  refine ⟨ad, u.noteEa ad.ea, e, r.frame.ofCur, rfl, ?_⟩
  cases m with
  | zeroPage | absolute => cases eu; exact ⟨rfl, hi, cycles⟩
  | absoluteX | absoluteY => cases eu; exact ⟨indexedAddr_ea _ _, rfl, hi, cycles⟩
  | zeroPageX | zeroPageY => obtain ⟨_, -, eu⟩ := andThen_eq_next.1 eu; cases eu; exact ⟨rfl, hi, cycles⟩
  | preIndexed b =>
    obtain ⟨s1, e1, r1⟩ := dummyRead_ready (zext16 b) h
    obtain ⟨lo, s2, hib, _, e2, e3, ep, r2, -⟩ := zeroPagePointer_ready (b + s.x) r1.ready
    simp only [addressPhase, e1, ep, andThen_next] at eu
    cases eu
    exact ⟨hi, cycles, s1, lo, s2, hib, _, e1, e2, e3, rfl, r1.memRead_plain e2, (r1.trans r2).memRead_plain e3⟩
  | postIndexed b =>
    obtain ⟨lo, s1, hib, _, e1, e2, ep, r1, -⟩ := zeroPagePointer_ready b h
    simp only [addressPhase, ep, andThen_next] at eu
    cases eu
    have uncarried : (indexedAddr (word hib lo) s.y).uncarried = word hib (lo + s.y) := by
      rw [indexedAddr, hiByte_word, loByte_word]
    exact ⟨hi, cycles, lo, s1, hib, _, e1, e2, indexedAddr_ea _ _, uncarried, (Ran.refl h).memRead_plain e1,
      r1.memRead_plain e2⟩

/-! ### Data phases (40_addressing.md R142, R155) -/

/-- The READ data phase: one read, at the effective address, after one at the address without the carry when a page is
crossed. -/
theorem readPhase_eq {ad : EffAddr} (h : AddrOk ad) (s : State) :
    readPhase ad s =
      if ad.crossed then andThen (memRead ad.uncarried s) fun r => memRead ad.ea (r.2.notePageCrossed true)
      else memRead ad.ea s := by
  cases hi : ad.indexed with
  | false => rw [readPhase, hi, h.indexed hi]; rfl
  | true =>
    cases hc : ad.crossed with
    | true => rw [readPhase, hi, hc]; rfl
    | false =>
      rw [readPhase, hi, hc, h.same hc]
      cases memRead ad.ea s <;> rfl

/-- The READ data phase completes, changes nothing, and answers the byte at the effective address. -/
theorem readPhase_reads {s : State} {ad : EffAddr} (h : Ready s) (hok : AddrOk ad) :
    ∃ v t, readPhase ad s = .next (v, t) ∧ Frame s t ∧ t.cur.cycles = s.cur.cycles + 1 + ad.crossed.toNat ∧
      (ad.crossed = false → memRead ad.ea s = .next (v, t)) ∧
      (ad.crossed = true → ∃ d u, memRead ad.uncarried s = .next (d, u) ∧
        memRead ad.ea (u.notePageCrossed true) = .next (v, t)) ∧
      ∀ b, plainByte s ad.ea = some b → v = b := by
  rw [readPhase_eq hok]
  cases hc : ad.crossed with
  | false =>
    obtain ⟨_, t, -, e, -, r⟩ := memRead_ready ad.ea h
    exact ⟨_, t, e, r.frame, by rw [r.cur]; rfl, fun _ => e, nofun, (Ran.refl h).memRead_plain e⟩
  | true =>
    obtain ⟨_, u, -, eu, -, ru⟩ := memRead_ready ad.uncarried h
    have hu : Ready (u.notePageCrossed true) := ru.ready
    obtain ⟨_, t, -, e, -, r⟩ := memRead_ready ad.ea hu
    refine ⟨_, t, by rw [if_pos rfl, eu, andThen_next, e], (ru.frame.setCur _).trans r.frame,
      by rw [r.cur, State.notePageCrossed_cur, ru.cur]; rfl, nofun, fun _ => ⟨_, u, eu, e⟩, fun b hb => ?_⟩
    exact (Ran.refl hu).memRead_plain e b (ru.plainByte hb)

/-- Settles O41: the address phase, then one read or two. -/
theorem readPhases : Obligations.ReadPhases := by
  unfold Obligations.ReadPhases
  refine fun s h => ⟨fun _ => rfl, fun m => ?_⟩
  obtain ⟨ad, s1, c, e1, r1, -⟩ := resolve_ready m h
  obtain ⟨v, y, e2, f, hcycles, direct, crossing, plain⟩ := readPhase_reads r1.ready (resolve_ok e1)
  have same : ∀ b, plainByte s ad.ea = some b → plainByte s1 ad.ea = some b := fun b hb => r1.plainByte hb
  exact ⟨ad, s1, v, y, e1, by simp only [readSource, e1, e2, andThen_next], (r1.frame.ofCur.trans f).setCur _, hcycles,
    direct, crossing, fun b hb => plain b (same b hb)⟩

/-! ### JMP (46_control.md R259) -/

theorem setPc_op (v : Word) : CpuOp (State.setPc · v) where
  same := fun _ _ h => ⟨h.a, h.x, h.y, h.sp, rfl, h.p, h.irqLine, h.nmiLine, h.nmiPending, h.fault, h.reports, h.last⟩
  cur := fun _ => rfl
  mem := fun _ => rfl
  tia := fun _ => rfl
  riot := fun _ => rfl
  cart := fun _ => rfl
  count := fun _ => ⟨rfl, rfl, rfl⟩

/-- The bug that an indirect jump reports (R151). -/
def pointerBug (ptr : Word) : Bug := if loByte ptr = 0xFF then .jmpIndirectPageWrap else .none

/-- JMP indirect completes: two read cycles in the pointer's page, then PC (R151). -/
theorem opJmpIndirect_ready {s : State} (ptr : Word) (h : Ready s) :
    ∃ lo s1 hi s2, memRead ptr s = .next (lo, s1) ∧ memRead (pointerHigh ptr) s1 = .next (hi, s2) ∧ Ran 1 s s1 ∧
      Ran 2 s s2 ∧ opJmpIndirect ptr s = .next ((s2.noteBug (pointerBug ptr)).setPc (word hi lo)) := by
  obtain ⟨_, s1, -, e1, -, r1⟩ := memRead_ready ptr h
  obtain ⟨_, s2, -, e2, -, r2⟩ := memRead_ready (pointerHigh ptr) r1.ready
  exact ⟨_, s1, _, s2, e1, e2, r1, r1.trans r2, by simp only [opJmpIndirect, e1, e2, andThen_next]; rfl⟩

/-- Settles O29: absolute makes no bus cycle; indirect makes its two reads. -/
theorem jumpsRun : Obligations.JumpsRun := by
  unfold Obligations.JumpsRun
  refine fun s w h => ⟨⟨(s.noteEa w).setPc w, rfl, ⟨rfl, rfl, rfl, rfl, rfl, rfl, rfl, rfl⟩, ?_, rfl⟩, ?_⟩
  · exact ((Ran.refl h).frame.setCur _).op (setPc_op w)
  · obtain ⟨lo, s1, hi, s2, e1, e2, r1, r2, e⟩ := opJmpIndirect_ready w h
    exact ⟨lo, s1, hi, s2, _, e1, e2, (Ran.refl h).memRead_plain e1, r1.memRead_plain e2, e,
      ⟨rfl, rfl, rfl, rfl, rfl, rfl, rfl, rfl⟩, (r2.frame.setCur _).op (setPc_op _),
      congrArg LastResult.cycles r2.cur, rfl⟩

end Sys2Proof.Machine
end

section
/-! PROOFS of the family 40_addressing.md, continued: the fetch of an instruction from plain memory is its decoding, and
the record of a completed instruction. -/

namespace Sys2Proof

/-- How many operand bytes a shape's fetch moves PC past (46_control.md R259, R260). -/
def Shape.advance : Shape → Nat
  | .bare _ => 0
  | .byte _ | .jump _ | .call _ => 1
  | .word _ => 2

end Sys2Proof

namespace Sys2Proof.Machine

/-! ### PC over several increments (10_state.md R32, 60_exceptions.md R304) -/

theorem CpuOp.iterate {f : State → State} (hf : CpuOp f) (n : Nat) : CpuOp f^[n] := by
  induction n with
  | zero => exact ⟨fun _ _ h => h, fun _ => rfl, fun _ => rfl, fun _ => rfl, fun _ => rfl, fun _ => rfl,
      fun _ => ⟨rfl, rfl, rfl⟩⟩
  | succ n ih =>
    exact {
      same := fun s t h => ih.same _ _ (hf.same s t h)
      cur := fun s => (ih.cur _).trans (hf.cur s)
      mem := fun s => (ih.mem _).trans (hf.mem s)
      tia := fun s => (ih.tia _).trans (hf.tia s)
      riot := fun s => (ih.riot _).trans (hf.riot s)
      cart := fun s => (ih.cart _).trans (hf.cart s)
      count := fun s =>
        ⟨(ih.count _).1.trans (hf.count s).1, (ih.count _).2.1.trans (hf.count s).2.1,
          (ih.count _).2.2.trans (hf.count s).2.2⟩ }

/-- PC counts modulo 2^16. -/
theorem iterate_incPc_pc (s : State) (n : Nat) : (State.incPc^[n] s).pc = BitVec.ofNat 16 (s.pc.toNat + n) := by
  induction n with
  | zero => simp
  | succ n ih =>
    rw [Function.iterate_succ_apply', State.incPc_pc, ih]
    exact (BitVec.ofNat_add (s.pc.toNat + n) 1).symm

/-- Less than 2^16 increments report ProgramCounterCycled once if PC passes $FFFF, else not. -/
theorem iterate_incPc_reports (s : State) {n : Nat} (hn : n < 65536) :
    (State.incPc^[n] s).reports =
      s.reports ++ if s.pc.toNat + n < 65536 then [] else [.programCounterCycled] := by
  have hpc := s.pc.isLt
  induction n with
  | zero => simp [hpc]
  | succ n ih =>
    have last : (State.incPc^[n] s).pc = 0xFFFF ↔ s.pc.toNat + n = 65535 := by
      rw [iterate_incPc_pc, ← BitVec.toNat_inj, BitVec.toNat_ofNat, show (0xFFFF : Word).toNat = 65535 from rfl]
      omega
    rw [Function.iterate_succ_apply', State.incPc_reports, ih (by omega)]
    by_cases hw : s.pc.toNat + n = 65535
    · rw [if_pos (last.2 hw), if_pos (by omega), if_neg (by omega), List.append_nil]
    · rw [if_neg (mt last.1 hw)]
      exact congrArg (s.reports ++ ·) (if_congr (by omega) rfl rfl)

/-! ### Bytes of plain memory -/

/-- The bytes that stand from an address on, as a memory gives them. -/
def PlainFrom (byte : Word → Option Byte) : Word → List Byte → Prop
  | _, [] => True
  | addr, b :: bs => byte addr = some b ∧ PlainFrom byte (addr + 1) bs

/-- The bytes at PC are plain memory, as far as they are listed. -/
theorem plainBytes_plainFrom (s : State) : PlainFrom (plainByte s) s.pc (plainBytes s) := by
  unfold plainBytes
  cases h0 : plainByte s s.pc with
  | none => exact trivial
  | some b0 =>
    cases h1 : plainByte s (s.pc + 1) with
    | none => exact ⟨h0, trivial⟩
    | some b1 =>
      refine ⟨h0, h1, ?_⟩
      rw [BitVec.add_assoc]
      cases h2 : plainByte s (s.pc + 2) with
      | none => exact trivial
      | some b2 => exact ⟨h2, trivial⟩

/-- Cycles without a write leave plain bytes as they are. -/
theorem Ran.plainFrom {n : Nat} {s t : State} (r : Ran n s t) :
    ∀ {bs : List Byte} {addr : Word},
      PlainFrom (Machine.plainByte s) addr bs → PlainFrom (Machine.plainByte t) addr bs
  | [], _, _ => trivial
  | _ :: _, _, ⟨hb, hbs⟩ => ⟨r.plainByte hb, r.plainFrom hbs⟩

/-! ### Fetching from plain memory (40_addressing.md R140, R142) -/

/-- The fetch of the first of the bytes at PC: the others stand at PC then. -/
theorem fetchByte_plain {s : State} {b : Byte} {bs : List Byte} (h : Ready s)
    (hp : PlainFrom (plainByte s) s.pc (b :: bs)) :
    ∃ t, fetchByte s = .next (b, t) ∧ Ran 1 s.incPc t ∧ PlainFrom (plainByte t) t.pc bs := by
  obtain ⟨hb, hbs⟩ := hp
  obtain ⟨t, e, r⟩ := fetchByte_code h hb
  refine ⟨t, e, r, ?_⟩
  rw [r.frame.cpu.pc]
  exact r.plainFrom hbs

/-- The opcode fetch from plain memory: the operand bytes stand at PC then. -/
theorem fetchOpcode_plain {s : State} {op : Byte} {bs : List Byte} (h : Ready s)
    (hp : PlainFrom (plainByte s) s.pc (op :: bs)) :
    ∃ t, fetchOpcode s = .next (op, t) ∧ Frame s.incPc t ∧ PlainFrom (plainByte t) t.pc bs := by
  obtain ⟨t, e, r, hp⟩ := fetchByte_plain (s := startRecord s) h hp
  have started : Frame s.incPc (startRecord s).incPc := ((Ran.refl h).frame.setCur _).op incPc_op
  exact ⟨t.setCur { t.cur with opcode := op, defn := some (rowOf op) }, by rw [fetchOpcode, e, andThen_next],
    started.trans (r.frame.setCur _), hp⟩

/-- The fetch of operand bytes from plain memory gives the instruction that the shape makes of them. -/
theorem fetchOperands_plain {s : State} (sh : Shape) {bs : List Byte} (h : Ready s)
    (hp : PlainFrom (plainByte s) s.pc bs) (hw : sh.width ≤ bs.length) :
    ∃ t, fetchOperands sh s = .next (sh.fill bs, t) ∧ Frame (State.incPc^[sh.advance] s) t := by
  match sh, bs, hw with
  | .bare i, _, _ => exact ⟨s, rfl, (Ran.refl h).frame⟩
  | .byte f, b1 :: _, _ =>
    obtain ⟨t, e, r, -⟩ := fetchByte_plain h hp
    exact ⟨t, by rw [fetchOperands, e]; rfl, r.frame⟩
  | .word f, b1 :: b2 :: _, _ =>
    obtain ⟨t, e, r, hp⟩ := fetchByte_plain h hp
    obtain ⟨u, e2, r2, -⟩ := fetchByte_plain r.ready hp
    exact ⟨u, by rw [fetchOperands, e, andThen_next, e2]; rfl, ((r.op incPc_op).trans r2).frame⟩
  | .jump f, b1 :: b2 :: _, _ =>
    obtain ⟨t, e, r, hp⟩ := fetchByte_plain h hp
    obtain ⟨u, e2, r2⟩ := memRead_code r.ready hp.1
    exact ⟨u, by rw [fetchOperands, e, andThen_next, e2]; rfl, (r.trans r2).frame⟩
  | .call f, b1 :: b2 :: _, _ =>
    obtain ⟨t, e, r, hp⟩ := fetchByte_plain h hp
    exact ⟨t, by rw [fetchOperands, e, andThen_next, busRead, readValue_code hp.1]; rfl, r.frame⟩

/-- The fetch moves PC past the opcode and the operand bytes of the cell. -/
theorem pcAdvance_eq (i : Instr) : pcAdvance i = 1 + (entryOf i.opcode).shape.advance := by
  have length : (encode i).length = (entryOf i.opcode).shape.width + 1 := by
    rw [encode, List.length_cons, operand_bytes_length_eq]
  unfold pcAdvance
  cases hs : (entryOf i.opcode).shape <;> simp only [length, hs] <;> rfl

/-- PC is moved past no more than three bytes. -/
theorem pcAdvance_le (i : Instr) : pcAdvance i ≤ 3 := by
  rw [pcAdvance_eq]
  cases (entryOf i.opcode).shape <;> simp only [Shape.advance, Nat.reduceAdd, Nat.reduceLeDiff]

/-- The fetch of the instruction that the plain bytes at PC decode to. -/
theorem fetchInstr_plain {s : State} {i : Instr} {rest : List Byte} (h : Ready s)
    (hd : decode (plainBytes s) = .ok (i, rest)) :
    ∃ t, fetchInstr s = .next (i, t) ∧ Frame (State.incPc^[pcAdvance i] s) t := by
  have hp := plainBytes_plainFrom s
  cases hb : plainBytes s with
  | nil => rw [hb] at hd; cases hd
  | cons op more =>
    rw [hb] at hp hd
    rw [decode_cons] at hd
    split at hd
    case isFalse => cases hd
    case isTrue hw =>
      cases hd
      obtain ⟨t, e, f, hp⟩ := fetchOpcode_plain h hp
      obtain ⟨u, e2, f2⟩ := fetchOperands_plain (entryOf op).shape f.ready hp hw
      refine ⟨u, by simp only [fetchInstr, e, e2, andThen_next], ?_⟩
      rw [pcAdvance_eq, (Shape.fill_bytes (entryOf_builds op) hw).1, Nat.add_comm, Function.iterate_succ_apply]
      exact (f.op (incPc_op.iterate _)).trans f2

/-! ### A step of one instruction (64_scheduler.md R494) -/

theorem andThen_assoc {α β γ : Type} (o : Host.Outcome α Fault Refusal) (k : α → Host.Outcome β Fault Refusal)
    (l : β → Host.Outcome γ Fault Refusal) : andThen (andThen o k) l = andThen o fun a => andThen (k a) l := by
  cases o <;> rfl

/-- Without an interrupt a step runs an instruction and drains the stall. -/
theorem step_eq_runInstr {s : State} (hf : s.fault = none) (hn : NoInterrupt s) :
    step s = andThen (runInstr (startStep s)) stall := by
  simp only [step, hf, atBoundary, startStep_nmiPending, hn.1, show irqDue (startStep s) = false from hn.2,
    Bool.false_eq_true, if_false]

/-- The counters and records of a new step are none of what a frame names. -/
theorem startStep_frame {s : State} (h : Ready s) : Frame s (startStep s) :=
  ⟨⟨rfl, rfl, rfl, rfl, rfl, rfl, rfl, rfl, rfl, rfl, rfl, rfl⟩, rfl, rfl, rfl, id, h⟩

/-- Settles O5: the fetch reads the bytes that decode, and PC counts them. -/
theorem stepRunsTheDecodedInstruction : Obligations.StepRunsTheDecodedInstruction := by
  unfold Obligations.StepRunsTheDecodedInstruction
  intro s i rest hf hn h hd
  obtain ⟨s1, e, f⟩ := fetchInstr_plain (s := startStep s) h hd
  have frame : Frame (State.incPc^[pcAdvance i] s) s1 := ((startStep_frame h).op (incPc_op.iterate _)).trans f
  have short : pcAdvance i < 65536 := by have := pcAdvance_le i; omega
  refine ⟨s1, e, ?_, frame, frame.cpu.pc.trans (iterate_incPc_pc s _),
    frame.cpu.reports.trans (iterate_incPc_reports s short), (fetchInstr_cur (s := startStep s) h e).2⟩
  rw [step_eq_runInstr hf hn, runInstr, e, andThen_next, andThen_assoc]
  rfl

end Sys2Proof.Machine
end

section
/-! PROOFS of the family 40_addressing.md, the last-result record: cycles and register updates keep the fields of the
record that name the instruction, and only JMP indirect notes a bug. -/

namespace Sys2Proof

/-- The one instruction with a pointer operand. -/
theorem eq_jmpInd_of_operand {i : Instr} {ptr : Word} (h : i.operand = .pointer ptr) : i = .jmpInd ptr := by
  cases i <;> cases h
  rfl

end Sys2Proof

namespace Sys2Proof.Machine

/-- The fields of a record that name its instruction, and the bug. -/
def LastResult.heading (c : LastResult) : LastResult :=
  { LastResult.blank with address := c.address, opcode := c.opcode, defn := c.defn, bug := c.bug }

/-- Whatever state the outcome answers, its record has this heading; st takes the state from what is answered. -/
def Heads {β : Type} (st : β → State) (c : LastResult) (o : Host.Outcome β Fault Refusal) : Prop :=
  ∀ b, o = .next b → (st b).cur.heading = c

/-! ### Sequences -/

section heads
variable {α β : Type} {sa : α → State} {sb : β → State} {c d : LastResult}

theorem Heads.next {b : β} (h : (sb b).cur.heading = c) : Heads sb c (.next b) := by
  intro b' e
  cases e
  exact h

theorem Heads.fault {f : Fault} : Heads sb c (.fault f) := nofun

theorem Heads.bind {o : Host.Outcome α Fault Refusal} {k : α → Host.Outcome β Fault Refusal} (h : Heads sa c o)
    (hk : ∀ a, (sa a).cur.heading = c → Heads sb d (k a)) : Heads sb d (andThen o k) := by
  intro b e
  obtain ⟨a, ea, e⟩ := andThen_eq_next.1 e
  exact hk a (h a ea) b e

end heads

/-! ### Cycles -/

theorem tick_cur {s t : State} (e : tick s = .next t) : t.cur = s.cur := by
  obtain ⟨_, _, _, _, _, _, _, _, -, -, -, ht⟩ := tick_eq_next e
  rw [ht]
  simp

theorem stallFor_cur {t : State} (fuel : Nat) : ∀ {s : State}, stallFor fuel s = .next t → t.cur = s.cur := by
  induction fuel with
  | zero =>
    intro s e
    unfold stallFor at e
    split at e
    · cases e; rfl
    · cases e
  | succ fuel ih =>
    intro s e
    unfold stallFor at e
    split at e
    · cases e; rfl
    · obtain ⟨u, eu, e⟩ := andThen_eq_next.1 e
      rw [ih e, tick_cur (runCycle_eq_next eu), State.setHalted_cur]

section cycles
variable {c : LastResult} {s : State} (h : s.cur.heading = c)
include h

theorem memRead_heads (addr : Word) : Heads Prod.snd c (memRead addr s) := by
  rintro ⟨b, t⟩ e
  obtain ⟨s1, e1, -, et⟩ := memRead_eq_next e
  rw [tick_cur et, State.noteCycle_cur, afterRead_cur, stallFor_cur _ e1]
  exact h

theorem memWrite_heads (addr : Word) (v : Byte) : Heads id c (memWrite addr v s) := by
  intro t e
  rw [id, tick_cur (memWrite_eq_next e), State.noteCycle_cur, afterWrite_cur]
  exact h

theorem dummyRead_heads (addr : Word) : Heads id c (dummyRead addr s) :=
  (memRead_heads h addr).bind fun _ hu => .next hu

theorem push_heads (v : Byte) : Heads id c (push v s) := (memWrite_heads h _ v).bind fun _ hu => .next hu

theorem pull_heads : Heads Prod.snd c (pull s) := (memRead_heads h _).bind fun _ hu => .next hu

theorem pushOp_heads (v : Byte) : Heads id c (pushOp v s) :=
  (dummyRead_heads h _).bind fun u hu => push_heads (s := u.noteOperand v) hu v

theorem pullOp_heads : Heads Prod.snd c (pullOp s) :=
  (dummyRead_heads h _).bind fun _ hu =>
  (dummyRead_heads hu _).bind fun _ hu =>
  (pull_heads hu).bind fun _ hu => .next hu

theorem impliedOp_heads {f : State → State} (hf : ∀ u, (f u).cur = u.cur) : Heads id c (impliedOp f s) :=
  (dummyRead_heads h _).bind fun u hu => .next ((congrArg LastResult.heading (hf u)).trans hu)

/-! ### Operands (40_addressing.md R142 to R160) -/

theorem zeroPagePointer_heads (p : Byte) : Heads Prod.snd c (zeroPagePointer p s) :=
  (memRead_heads h _).bind fun _ hu => (memRead_heads hu _).bind fun _ hu => .next hu

theorem addressPhase_heads (m : MemMode) : Heads Prod.snd c (addressPhase m s) := by
  cases m with
  | zeroPage | absolute | absoluteX | absoluteY => exact .next h
  | zeroPageX | zeroPageY => exact (dummyRead_heads h _).bind fun _ hu => .next hu
  | preIndexed =>
    exact (dummyRead_heads h _).bind fun _ hu => (zeroPagePointer_heads hu _).bind fun _ hu => .next hu
  | postIndexed => exact (zeroPagePointer_heads h _).bind fun _ hu => .next hu

theorem resolve_heads (m : MemMode) : Heads Prod.snd c (resolve m s) :=
  (addressPhase_heads h m).bind fun _ hu => .next hu

theorem readPhase_heads (ad : EffAddr) : Heads Prod.snd c (readPhase ad s) := by
  unfold readPhase
  split
  · refine (memRead_heads h _).bind fun r hu => ?_
    split
    · exact memRead_heads (s := r.2.notePageCrossed true) hu _
    · exact .next hu
  · exact memRead_heads h _

theorem indexedDummy_heads (ad : EffAddr) : Heads id c (indexedDummy ad s) := by
  unfold indexedDummy
  split
  · exact dummyRead_heads (s := s.notePageCrossed ad.crossed) h _
  · exact .next h

theorem readSource_heads (src : Source) : Heads Prod.snd c (readSource src s) := by
  cases src with
  | immediate imm => exact .next h
  | memory m =>
    exact (resolve_heads h m).bind fun ad hu => (readPhase_heads hu ad.1).bind fun _ hu => .next hu

theorem readOp_heads {f : Byte → State → State} (src : Source) (hf : ∀ v u, (f v u).cur = u.cur) :
    Heads id c (readOp src f s) :=
  (readSource_heads h src).bind fun r hu => .next ((congrArg LastResult.heading (hf r.1 r.2)).trans hu)

theorem writeOp_heads (m : MemMode) (v : Byte) : Heads id c (writeOp m v s) :=
  (resolve_heads h m).bind fun ad hu =>
  (indexedDummy_heads hu ad.1).bind fun u hu => memWrite_heads (s := u.noteOperand v) hu _ v

theorem rmwOp_heads {f : Byte → Byte} {g : Byte → State → State} (m : MemMode) (hg : ∀ v u, (g v u).cur = u.cur) :
    Heads id c (rmwOp m f g s) := by
  refine (resolve_heads h m).bind fun ad hu => Heads.bind (sa := Prod.snd) (c := c) ?_ fun r hu =>
    .next ((congrArg LastResult.heading (hg r.1 r.2)).trans hu)
  exact (indexedDummy_heads hu ad.1).bind fun _ hu =>
    (memRead_heads hu _).bind fun r hu =>
    (memWrite_heads (s := r.2.noteOperand r.1) hu _ _).bind fun _ hu =>
    (memWrite_heads hu _ _).bind fun _ hu => .next hu

/-! ### Control (46_control.md R250 to R263) -/

theorem opBranch_heads (cond : Bool) (off : Byte) : Heads id c (opBranch cond off s) := by
  unfold opBranch
  split
  · refine (dummyRead_heads h _).bind fun _ hu => ?_
    split
    · exact .next hu
    · exact (dummyRead_heads hu _).bind fun _ hu => .next hu
  · exact .next h

theorem opJsr_heads (target : Word) : Heads id c (opJsr target s) :=
  (dummyRead_heads h _).bind fun _ hu =>
  (push_heads hu _).bind fun _ hu =>
  (push_heads hu _).bind fun _ hu =>
  (memRead_heads hu _).bind fun _ hu => .next hu

theorem opRts_heads : Heads id c (opRts s) :=
  (dummyRead_heads h _).bind fun _ hu =>
  (dummyRead_heads hu _).bind fun _ hu =>
  (pull_heads hu).bind fun _ hu =>
  (pull_heads hu).bind fun _ hu =>
  (dummyRead_heads hu _).bind fun _ hu => .next hu

theorem takeInterrupt_heads (vec : Word) (b : Bool) : Heads id c (takeInterrupt vec b s) :=
  (push_heads h _).bind fun _ hu =>
  (push_heads hu _).bind fun _ hu =>
  (push_heads hu _).bind fun _ hu =>
  (memRead_heads hu _).bind fun r hu =>
  (memRead_heads (s := r.2.setP { r.2.p with i := true }) hu _).bind fun _ hu => .next hu

theorem opBrk_heads : Heads id c (opBrk s) :=
  (dummyRead_heads h _).bind fun u hu => takeInterrupt_heads (s := u.incPc) hu _ _

theorem opRti_heads : Heads id c (opRti s) :=
  (dummyRead_heads h _).bind fun _ hu =>
  (dummyRead_heads hu _).bind fun _ hu =>
  (pull_heads hu).bind fun r hu =>
  (pull_heads (s := r.2.setP (.pulled r.1)) hu).bind fun _ hu =>
  (pull_heads hu).bind fun _ hu => .next hu

theorem opJmpIndirect_heads (ptr : Word) : Heads id { c with bug := pointerBug ptr } (opJmpIndirect ptr s) :=
  (memRead_heads h _).bind fun _ hu =>
  (memRead_heads hu _).bind fun _ hu => .next (congrArg (fun c => { c with bug := pointerBug ptr }) hu)

end cycles

/-! ### Every instruction -/

/-- The bug in the record after an instruction with this operand: only a jump's pointer notes one. -/
def recordedBug : Operand → Bug → Bug
  | .pointer ptr, _ => pointerBug ptr
  | _, bug => bug

/-- Whatever operation an instruction runs, the heading of the record stays but for an indirect jump's bug. -/
theorem Meaning.heads {op : Byte} {mn : Mnemonic} {o : Operand} {run : State → Out} (hm : Meaning op mn o run)
    (s : State) : Heads id { s.cur.heading with bug := recordedBug o s.cur.bug } (run s) := by
  have h : s.cur.heading = s.cur.heading := rfl
  cases hm with
  | adc | sbc | and | ora | eor | bit | cmp | cpx | cpy | lda | ldx | ldy | lax | nop | anc | alr | arr | xaa | axs =>
    exact readOp_heads h _ fun _ _ => rfl
  | inc | dec | asl | lsr | rol | ror | dcp | isc | slo => exact rmwOp_heads h _ fun _ _ => rfl
  | sta | stx | sty | sax => exact writeOp_heads h _ _
  | aslAcc | lsrAcc | rolAcc | rorAcc | inx | iny | dex | dey | tax | tay | txa | tya | tsx | txs | clc | sec | cli
  | sei | cld | sed | clv | nopImplied => exact impliedOp_heads h fun _ => rfl
  | pha | php => exact pushOp_heads h _
  | pla | plp => exact (pullOp_heads h).bind fun _ hu => .next hu
  | bcc | bcs | beq | bne | bmi | bpl | bvc | bvs => exact opBranch_heads h _ _
  | rts => exact opRts_heads h
  | brk => exact opBrk_heads h
  | rti => exact opRti_heads h
  | jmp => exact .next h
  | jmpIndirect => exact opJmpIndirect_heads h _
  | jsr => exact opJsr_heads h _
  | invalid => exact .fault

/-- An instruction that reads an operand has one operation on the byte read, which leaves the record alone. -/
theorem Meaning.eq_readOp {op : Byte} {mn : Mnemonic} {src : Source} {run : State → Out}
    (hm : Meaning op mn (.source src) run) : ∃ f, (∀ s, run s = readOp src f s) ∧ ∀ v u, (f v u).cur = u.cur := by
  cases hm <;> exact ⟨_, fun _ => rfl, fun _ _ => rfl⟩

/-- An immediate operand is noted in the record and nothing else is (10_state.md R40). -/
theorem exec_immediate_cur {i : Instr} {imm : Byte} {s t : State} (hi : i.operand = .source (.immediate imm))
    (e : exec i s = .next t) : t.cur = { s.cur with operand := some imm } := by
  obtain ⟨f, hf, hc⟩ := Meaning.eq_readOp (hi ▸ exec_meaning i)
  rw [hf] at e
  cases e
  exact hc imm (s.noteOperand imm)

/-! ### The last result (10_state.md R40; 60_exceptions.md R306, R315) -/

/-- No bug is noted by an instruction that is no jump through $xxFF. -/
theorem recordedBug_none {i : Instr} (h : ∀ ptr, i = .jmpInd ptr → loByte ptr ≠ 0xFF) :
    recordedBug i.operand .none = .none := by
  cases ho : i.operand with
  | pointer ptr => exact if_neg (h ptr (eq_jmpInd_of_operand ho))
  | _ => rfl

/-- The last result of a step of one instruction is its record, closed. -/
theorem step_last {s t : State} {i : Instr} {rest : List Byte} (hs : Inv s) (hn : NoInterrupt s)
    (hd : decode (plainBytes s) = .ok (i, rest)) (e : step s = .next t) :
    ∃ s1 s2, s1.cur = { LastResult.blank with
        address := s.pc, opcode := i.opcode, defn := some (rowOf i.opcode), cycles := fetchCycles i } ∧
      exec i s1 = .next s2 ∧ t.last = { s2.cur with bug := finalBug s2.cur, final := true } := by
  obtain ⟨i', s1, s2, ef, ee, es⟩ := step_eq_next hs.noFault hn e
  obtain ⟨_, ei, -⟩ := fetchInstr_plain (s := startStep s) hs.ready hd
  cases ei.symm.trans ef
  obtain ⟨h1, hcur⟩ := fetchInstr_cur (s := startStep s) hs.ready ef
  obtain ⟨_, p, -⟩ := exec_executed h1 ee
  exact ⟨s1, s2, hcur, ee, stall_last (s := closeRecord s2) p.ready es⟩

/-- An interrupt entry leaves the last result (60_exceptions.md R315). -/
theorem interruptEntry_last {s t : State} {vec : Word} (h : Ready s)
    (e : andThen (interruptEntry vec s) stall = .next t) : t.last = s.last := by
  obtain ⟨u, eu, l⟩ := interruptEntry_lived vec h
  rw [eu, andThen_next] at e
  exact (stall_last l.ready e).trans l.last

/-- A step that is no instruction is an interrupt entry. -/
theorem step_last_of_interrupt {s t : State} (hs : Inv s) (hn : ¬ NoInterrupt s) (e : step s = .next t) :
    t.last = s.last := by
  simp only [step, hs.noFault, atBoundary] at e
  split at e
  · exact interruptEntry_last (s := { startStep s with nmiPending := false }) hs.ready e
  · split at e
    · exact interruptEntry_last (s := startStep s) hs.ready e
    · rename_i hnmi hirq
      exact absurd ⟨Bool.eq_false_iff.2 hnmi, Bool.eq_false_iff.2 hirq⟩ hn

/-- Settles O12: the record is started by the fetch, headed alike after the execution, and closed. -/
theorem lastResultRecordsTheInstruction : Obligations.LastResultRecordsTheInstruction := by
  unfold Obligations.LastResultRecordsTheInstruction
  refine ⟨fun s t i rest hs hn hd e => ?_, fun s t hs hn e => step_last_of_interrupt hs hn e⟩
  obtain ⟨s1, s2, hcur, ee, hlast⟩ := step_last hs hn hd e
  have heading : s2.cur.heading = { s1.cur.heading with bug := recordedBug i.operand s1.cur.bug } :=
    (exec_meaning i).heads s1 s2 ee
  rw [hcur] at heading
  have address : s2.cur.address = s.pc := congrArg LastResult.address heading
  have opcode : s2.cur.opcode = i.opcode := congrArg LastResult.opcode heading
  have defn : s2.cur.defn = some (rowOf i.opcode) := congrArg LastResult.defn heading
  have bug : s2.cur.bug = recordedBug i.operand .none := congrArg LastResult.bug heading
  rw [hlast]
  refine ⟨address, opcode, defn, rfl, fun imm hi => ?_, fun hdoc => ?_, ?_, fun hdoc hptr => ?_⟩
  · rw [exec_immediate_cur hi ee, hcur]
    exact ⟨rfl, rfl⟩
  · have noJump : ∀ ptr, i = .jmpInd ptr → loByte ptr ≠ 0xFF := by
      rintro ptr rfl
      exact absurd hdoc (by decide : (rowOf 0x6C).documented ≠ false)
    simp only [finalBug, opcode, hdoc, bug, recordedBug_none noJump, Bool.false_eq_true, if_false]
  · rintro hdoc ptr rfl hff
    simp only [finalBug, opcode, hdoc, bug, if_true]
    exact if_pos hff
  · simp only [finalBug, opcode, hdoc, bug, recordedBug_none hptr, if_true]

end Sys2Proof.Machine
end

section
/-! PROOFS of the family 41_load_store.md: an instruction is its mnemonic's operation on its operand, a load is a READ
operation that updates the CPU alone, and a store is a WRITE operation. -/

namespace Sys2Proof.Machine

/-! ### An instruction's operation -/

/-- A mnemonic and an operand name one operation. -/
theorem Meaning.unique {op : Byte} {mn : Mnemonic} {o : Operand} {run run' : State → Out} (h : Meaning op mn o run)
    (k : Meaning op mn o run') : run = run' := by
  cases h <;> cases k <;> rfl

/-- An instruction runs whatever operation its mnemonic and its operand name. -/
theorem exec_eq {i : Instr} {mn : Mnemonic} {o : Operand} {run : State → Out} (hm : i.mnemonic = mn)
    (ho : i.operand = o) (k : Meaning i.opcode mn o run) : exec i = run := by
  subst hm ho
  exact (exec_meaning i).unique k

/-! ### Updates of the CPU, one register after another -/

theorem CpuOp.unchanged : CpuOp fun s => s :=
  ⟨fun _ _ h => h, fun _ => rfl, fun _ => rfl, fun _ => rfl, fun _ => rfl, fun _ => rfl, fun _ => ⟨rfl, rfl, rfl⟩⟩

section registers
variable {f : State → State} (hf : CpuOp f)
include hf

theorem CpuOp.setA {v : State → Byte} (hv : ∀ s t, SameCpu s t → v t = v s) : CpuOp fun s => (f s).setA (v s) :=
  { hf with same := fun s t h => { hf.same s t h with a := hv s t h } }

theorem CpuOp.setX {v : State → Byte} (hv : ∀ s t, SameCpu s t → v t = v s) : CpuOp fun s => (f s).setX (v s) :=
  { hf with same := fun s t h => { hf.same s t h with x := hv s t h } }

theorem CpuOp.setY {v : State → Byte} (hv : ∀ s t, SameCpu s t → v t = v s) : CpuOp fun s => (f s).setY (v s) :=
  { hf with same := fun s t h => { hf.same s t h with y := hv s t h } }

theorem CpuOp.setP {p : State → Status} (hp : ∀ s t, SameCpu s t → p t = p s) : CpuOp fun s => (f s).setP (p s) :=
  { hf with same := fun s t h => { hf.same s t h with p := hp s t h } }

/-- N and Z from a value, the other flags as they were (41_load_store.md R186). -/
theorem CpuOp.setWithNZ (v : Byte) : CpuOp fun s => (f s).setP (withNZ s.p v) :=
  hf.setP fun _ _ h => by rw [h.p]

/-- Such an update is no bus cycle. -/
theorem CpuOp.sameBus {s : State} (halted : (f s).halted = s.halted) : SameBus s (f s) :=
  let ⟨cycleCount, stepCycles, signals⟩ := hf.count s
  ⟨hf.mem s, hf.tia s, hf.riot s, hf.cart s, halted, cycleCount, stepCycles, signals⟩

end registers

/-- The model's update of N and Z is the one of R186. -/
theorem setNZ_eq_setP (s : State) (v : Byte) : s.setNZ v = s.setP (withNZ s.p v) := rfl

/-! ### Loads (41_load_store.md R180 to R182, 47_undocumented.md R275) -/

/-- An instruction that reads its operand and then updates the CPU alone completes as ReadRuns says. -/
theorem readRuns_of_readOp {i : Instr} {src : Source} {s : State} {g : Byte → State → State} (h : Ready s)
    (hg : ∀ m, CpuOp (g m)) (halted : ∀ m u, (g m u).halted = u.halted) (e : exec i = readOp src g) :
    ReadRuns i src s g := by
  obtain ⟨m, u, c, crossed, eu, r, -⟩ := readSource_ready src h
  exact ⟨m, u, g m u, eu, by simp only [e, readOp, eu, andThen_next], (hg m).sameBus (halted m u),
    r.frame.ofCur.op (hg m)⟩

theorem opLda_eq (src : Source) : opLda src = readOp src fun m s => (s.setA m).setP (withNZ s.p m) := by
  funext s
  simp only [opLda, setNZ_eq_setP, State.setA_p]

theorem opLdx_eq (src : Source) : opLdx src = readOp src fun m s => (s.setX m).setP (withNZ s.p m) := by
  funext s
  simp only [opLdx, setNZ_eq_setP, State.setX_p]

theorem opLdy_eq (src : Source) : opLdy src = readOp src fun m s => (s.setY m).setP (withNZ s.p m) := by
  funext s
  simp only [opLdy, setNZ_eq_setP, State.setY_p]

theorem opLax_eq (src : Source) : opLax src = readOp src fun m s => ((s.setA m).setX m).setP (withNZ s.p m) := by
  funext s
  simp only [opLax, setNZ_eq_setP, State.setX_p, State.setA_p]

/-- Settles O14: each load reads its operand, then updates its register and the flags N and Z. -/
theorem loadsPutTheByteInTheRegister : Obligations.LoadsPutTheByteInTheRegister := by
  unfold Obligations.LoadsPutTheByteInTheRegister
  intro s i src h ho
  have setA (m : Byte) : CpuOp (State.setA · m) := CpuOp.unchanged.setA fun _ _ _ => rfl
  have setX (m : Byte) : CpuOp (State.setX · m) := CpuOp.unchanged.setX fun _ _ _ => rfl
  have setY (m : Byte) : CpuOp (State.setY · m) := CpuOp.unchanged.setY fun _ _ _ => rfl
  have setAX (m : Byte) : CpuOp fun s => (s.setA m).setX m := (setA m).setX fun _ _ _ => rfl
  refine ⟨fun hm => ?lda, fun hm => ?ldx, fun hm => ?ldy, fun hm => ?lax⟩
  case lda =>
    exact readRuns_of_readOp h (fun m => (setA m).setWithNZ m) (fun _ _ => rfl)
      ((exec_eq hm ho (.lda src)).trans (opLda_eq src))
  case ldx =>
    exact readRuns_of_readOp h (fun m => (setX m).setWithNZ m) (fun _ _ => rfl)
      ((exec_eq hm ho (.ldx src)).trans (opLdx_eq src))
  case ldy =>
    exact readRuns_of_readOp h (fun m => (setY m).setWithNZ m) (fun _ _ => rfl)
      ((exec_eq hm ho (.ldy src)).trans (opLdy_eq src))
  case lax =>
    exact readRuns_of_readOp h (fun m => (setAX m).setWithNZ m) (fun _ _ => rfl)
      ((exec_eq hm ho (.lax src)).trans (opLax_eq src))

/-! ### Stores (41_load_store.md R183 to R185, 47_undocumented.md R276) -/

/-- An instruction that writes a value to memory and does nothing else completes as WriteRuns says. -/
theorem writeRuns_of_writeOp {i : Instr} {m : MemMode} {s : State} {v : Byte} (h : Ready s) (wf : s.mem.wf = true)
    (e : exec i s = writeOp m v s) : WriteRuns i m s v := by
  obtain ⟨ad, s1, s2, t, e1, e2, e3, e4, w, -⟩ := writeOp_ready m v h
  exact ⟨ad, s1, s2, t, e1, e2, e3, e.trans e4, w.cpu, w.stored wf⟩

/-- Settles O15: each store writes its registers' value at its operand's address. -/
theorem storesStoreTheRegister : Obligations.StoresStoreTheRegister := by
  unfold Obligations.StoresStoreTheRegister
  intro s i m h wf ho
  exact ⟨fun hm => writeRuns_of_writeOp h wf (congrFun (exec_eq hm ho (.sta m)) s),
    fun hm => writeRuns_of_writeOp h wf (congrFun (exec_eq hm ho (.stx m)) s),
    fun hm => writeRuns_of_writeOp h wf (congrFun (exec_eq hm ho (.sty m)) s),
    fun hm => writeRuns_of_writeOp h wf (congrFun (exec_eq hm ho (.sax m)) s)⟩

end Sys2Proof.Machine
end

section
/-! PROOFS of the family 42_transfer_stack.md: a transfer or a count is an update of the CPU after one dummy read; a
push is a store at $0100 + SP, and a pull a read at $0100 + SP + 1. -/

namespace Sys2Proof.Machine

/-! ### Transfers and counts (42_transfer_stack.md R190 to R195, 43_arith_logic.md R221 to R224) -/

/-- An instruction that makes one dummy read and then updates the CPU alone completes as ImpliedRuns says. -/
theorem impliedRuns_of_impliedOp {i : Instr} {s : State} {f : State → State} (h : Ready s) (hf : CpuOp f)
    (halted : ∀ u, (f u).halted = u.halted) (e : exec i = impliedOp f) : ImpliedRuns i s (f s) := by
  obtain ⟨u, eu, en, r⟩ := impliedOp_ready hf h
  exact ⟨u, f u, eu, by rw [e, en], hf.sameBus (halted u), r.frame, by rw [r.cur, hf.cur]⟩

/-- The same where N and Z come from a value of the CPU (41_load_store.md R186; setNZ_eq_setP). -/
theorem impliedRuns_withNZ {i : Instr} {s : State} {f : State → State} (v : State → Byte) (h : Ready s)
    (hf : CpuOp f) (halted : ∀ u, (f u).halted = u.halted) (hv : ∀ s t, SameCpu s t → v t = v s)
    (e : exec i = impliedOp fun s => (f s).setP (withNZ s.p (v s))) :
    ImpliedRuns i s ((f s).setP (withNZ s.p (v s))) :=
  impliedRuns_of_impliedOp h (hf.setP (p := fun s => withNZ s.p (v s)) fun s t k => by rw [k.p, hv s t k]) halted e

/-- SP from a value of the CPU. -/
theorem CpuOp.setSp {f : State → State} {v : State → Byte} (hf : CpuOp f)
    (hv : ∀ s t, SameCpu s t → v t = v s) : CpuOp fun s => (f s).setSp (v s) :=
  { hf with same := fun s t h => { hf.same s t h with sp := hv s t h } }

/-- Settles O16: each writes one register with a value of the CPU, and all but TXS set N and Z from that value. -/
theorem transfersAndCounts : Obligations.TransfersAndCounts := by
  unfold Obligations.TransfersAndCounts
  intro s h
  have a (s t : State) (k : SameCpu s t) : t.a = s.a := k.a
  have x (s t : State) (k : SameCpu s t) : t.x = s.x := k.x
  have y (s t : State) (k : SameCpu s t) : t.y = s.y := k.y
  have sp (s t : State) (k : SameCpu s t) : t.sp = s.sp := k.sp
  have x_add (s t : State) (k : SameCpu s t) : t.x + 1 = s.x + 1 := by rw [k.x]
  have y_add (s t : State) (k : SameCpu s t) : t.y + 1 = s.y + 1 := by rw [k.y]
  have x_sub (s t : State) (k : SameCpu s t) : t.x - 1 = s.x - 1 := by rw [k.x]
  have y_sub (s t : State) (k : SameCpu s t) : t.y - 1 = s.y - 1 := by rw [k.y]
  refine ⟨?tax, ?tay, ?txa, ?tya, ?tsx, ?txs, ?inx, ?iny, ?dex, ?dey⟩
  case tax => exact impliedRuns_withNZ State.a h (CpuOp.unchanged.setX a) (fun _ => rfl) a rfl
  case tay => exact impliedRuns_withNZ State.a h (CpuOp.unchanged.setY a) (fun _ => rfl) a rfl
  case txa => exact impliedRuns_withNZ State.x h (CpuOp.unchanged.setA x) (fun _ => rfl) x rfl
  case tya => exact impliedRuns_withNZ State.y h (CpuOp.unchanged.setA y) (fun _ => rfl) y rfl
  case tsx => exact impliedRuns_withNZ State.sp h (CpuOp.unchanged.setX sp) (fun _ => rfl) sp rfl
  case txs => exact impliedRuns_of_impliedOp h (CpuOp.unchanged.setSp x) (fun _ => rfl) rfl
  case inx => exact impliedRuns_withNZ (State.x · + 1) h (CpuOp.unchanged.setX x_add) (fun _ => rfl) x_add rfl
  case iny => exact impliedRuns_withNZ (State.y · + 1) h (CpuOp.unchanged.setY y_add) (fun _ => rfl) y_add rfl
  case dex => exact impliedRuns_withNZ (State.x · - 1) h (CpuOp.unchanged.setX x_sub) (fun _ => rfl) x_sub rfl
  case dey => exact impliedRuns_withNZ (State.y · - 1) h (CpuOp.unchanged.setY y_sub) (fun _ => rfl) y_sub rfl

/-! ### Addresses and status bytes of the stack (10_state.md R31, R33) -/

/-- An address in page 1 is $0100 plus its low byte. -/
theorem word_one (b : Byte) : word 0x01 b = 0x0100 + zext16 b := by
  apply BitVec.eq_of_toNat_eq
  rw [word_toNat, (pages_toNat b).2]
  rfl

theorem stackAddr_eq (s : State) : stackAddr s = 0x0100 + zext16 s.sp := word_one s.sp

/-- The byte that the model pushes has the weights of R33; the field B of P is not in it. -/
theorem pushed_eq_flagByte (p : Status) (b' : Bool) : p.pushed b' = flagByte p b' := by
  obtain ⟨n, v, b, d, i, z, c⟩ := p
  revert n v b d i z c b'
  decide

theorem pulled_eq_flagsOf (v : Byte) : Status.pulled v = flagsOf v := rfl

/-! ### Pushes (42_transfer_stack.md R196, R197) -/

/-- A store stays one when the CPU alone is updated after it. -/
theorem Stored.op {f : State → State} (hf : CpuOp f) {addr : Word} {v : Byte} {s t : State} (h : Stored addr v s t) :
    Stored addr v s (f t) where
  byte := by rw [hf.mem]; exact h.byte
  others := by rw [hf.mem]; exact h.others
  tia := by rw [hf.tia]; exact h.tia
  riot := by rw [hf.riot]; exact h.riot
  rom := by rw [hf.cart]; exact h.rom
  ready := by unfold Ready; rw [hf.tia, hf.riot]; exact h.ready

/-- A push instruction completes: a dummy read of PC, then its write cycle at $0100 + SP, then SP - 1. -/
theorem pushOp_ready {s s1 : State} (v : Byte) (r : Ran 1 s s1) (e1 : dummyRead s.pc s = .next s1) :
    ∃ u, memWrite (stackAddr s) v (s1.noteOperand v) = .next u ∧ pushOp v s = .next (u.setSp (s.sp - 1)) ∧
      Wrote (stackAddr s) v s u ∧ u.cur.cycles = s.cur.cycles + 2 := by
  obtain ⟨u, e2, e3, w, hcur⟩ := push_ready v (show Ready (s1.noteOperand v) from r.ready)
  have sp : (s1.noteOperand v).sp = s.sp := r.frame.cpu.sp
  rw [stackAddr, sp] at e2 w
  rw [sp] at e3
  exact ⟨u, e2, by simp only [pushOp, e1, andThen_next, e3], Wrote.after r w.ofCur,
    by rw [hcur, State.noteOperand_cur, r.cur]⟩

/-- Settles O17: both are a push of the byte that stood in the CPU before the dummy read. -/
theorem pushesStoreAndLowerSp : Obligations.PushesStoreAndLowerSp := by
  unfold Obligations.PushesStoreAndLowerSp
  intro s h wf
  obtain ⟨s1, e1, r1⟩ := dummyRead_ready s.pc h
  refine ⟨s1, e1, fun i v hi => ?_⟩
  have run : exec i s = pushOp v s := by
    obtain ⟨rfl, rfl⟩ | ⟨rfl, rfl⟩ := hi
    · rfl
    · rw [← pushed_eq_flagByte]
      rfl
  obtain ⟨u, e2, e3, w, cycles⟩ := pushOp_ready v r1 e1
  rw [stackAddr_eq] at e2 w
  have setSp := setSp_op (s.sp - 1)
  exact ⟨u, u.setSp (s.sp - 1), e2, run.trans e3, setSp.sameBus rfl, setSp.same s u w.cpu,
    (w.stored wf).op setSp, cycles⟩

/-! ### Pulls (42_transfer_stack.md R198, R199) -/

/-- A pull instruction reads PC, $0100 + SP and $0100 + SP + 1, and keeps the last byte; SP grows by 1. -/
theorem pullOp_ready {s : State} (h : Ready s) :
    ∃ s1 s2 v s3, dummyRead s.pc s = .next s1 ∧ dummyRead (stackAddr s) s1 = .next s2 ∧
      memRead (word 0x01 (s.sp + 1)) s2 = .next (v, s3) ∧ Ran 2 s s2 ∧ Ran 3 s s3 ∧
      pullOp s = .next (v, (s3.setSp (s.sp + 1)).noteOperand v) := by
  obtain ⟨s1, e1, r1⟩ := dummyRead_ready s.pc h
  obtain ⟨s2, e2, r2⟩ := dummyRead_ready (stackAddr s) r1.ready
  obtain ⟨v, s3, -, e3, -, r3⟩ := memRead_ready (word 0x01 (s.sp + 1)) r2.ready
  have addr : stackAddr s1 = stackAddr s := by rw [stackAddr, r1.frame.cpu.sp, stackAddr]
  have sp2 : s2.sp = s.sp := (r1.trans r2).frame.cpu.sp
  exact ⟨s1, s2, _, s3, e1, e2, e3, r1.trans r2, (r1.trans r2).trans r3,
    by simp only [pullOp, pull, e1, addr, e2, sp2, e3, andThen_next]⟩

theorem opPla_of_pullOp {s u : State} {v : Byte} (e : pullOp s = .next (v, u)) :
    opPla s = .next ((u.setA v).setP (withNZ u.p v)) := by
  simp only [opPla, e, andThen_next, setNZ_eq_setP, State.setA_p]

theorem opPlp_of_pullOp {s u : State} {v : Byte} (e : pullOp s = .next (v, u)) :
    opPlp s = .next (u.setP (flagsOf v)) := by
  simp only [opPlp, e, andThen_next, pulled_eq_flagsOf]

/-- Settles O18: both are a pull, whose byte then updates the CPU alone. -/
theorem pullsRaiseSp : Obligations.PullsRaiseSp := by
  unfold Obligations.PullsRaiseSp
  intro s h
  obtain ⟨s1, s2, v, s3, e1, e2, e3, r2, r3, e⟩ := pullOp_ready h
  rw [stackAddr_eq] at e2
  rw [word_one] at e3
  have pulled : Frame (s.setSp (s.sp + 1)) ((s3.setSp (s.sp + 1)).noteOperand v) :=
    (r3.frame.op (setSp_op _)).setCur _
  have cycles : s3.cur.cycles = s.cur.cycles + 3 := congrArg LastResult.cycles r3.cur
  have pla : CpuOp fun s => (s.setA v).setP (withNZ s.p v) := (CpuOp.unchanged.setA fun _ _ _ => rfl).setWithNZ v
  have plp : CpuOp fun s => s.setP (flagsOf v) := CpuOp.unchanged.setP fun _ _ _ => rfl
  refine ⟨s1, s2, v, s3, e1, e2, e3, r2.memRead_plain e3, ?pla, ?plp⟩
  case pla => exact ⟨_, opPla_of_pullOp e, ⟨rfl, rfl, rfl, rfl, rfl, rfl, rfl, rfl⟩, pulled.op pla, cycles⟩
  case plp => exact ⟨_, opPlp_of_pullOp e, ⟨rfl, rfl, rfl, rfl, rfl, rfl, rfl, rfl⟩, pulled.op plp, cycles⟩

end Sys2Proof.Machine
end

section
/-! PROOFS of the family 43_arith_logic.md: binary Add is the exact sum of bytes, Sub is Add of the complement, and the
decimal modes add and subtract the digits of BCD operands. -/

namespace Sys2Proof.Machine

/-! ### Bytes and nibbles as numbers -/

theorem ofNat_beq_zero (t : Nat) : (BitVec.ofNat 8 t == 0) = decide (t % 256 = 0) := by
  rw [beq_eq_decide]
  exact decide_eq_decide.mpr BitVec.toNat_eq

theorem msb_ofNat (t : Nat) : (BitVec.ofNat 8 t).msb = decide (128 ≤ t % 256) := by
  rw [BitVec.msb_eq_decide, BitVec.toNat_ofNat]

theorem ofNat_congr {x y : Nat} (h : x % 256 = y % 256) : BitVec.ofNat 8 x = BitVec.ofNat 8 y :=
  BitVec.eq_of_toNat_eq h

theorem ofInt_congr {x y : Int} (h : x % 256 = y % 256) : BitVec.ofInt 8 x = BitVec.ofInt 8 y :=
  BitVec.eq_of_toNat_eq (congrArg Int.toNat h)

/-- The borrow is what the carry is missing to 1. -/
theorem borrow_toNat (c : Bool) : c.toNat + (!c).toNat = 1 := by
  cases c <;> rfl

/-- The complement is what a byte is missing to 255. -/
theorem not_toNat (m : Byte) : (~~~m).toNat = 255 - m.toNat := BitVec.toNat_not

/-- The signed reading of the complement. -/
theorem not_toInt (m : Byte) : (~~~m).toInt = -1 - m.toInt := by
  have := m.isLt
  rw [BitVec.toInt_eq_toNat_cond, BitVec.toInt_eq_toNat_cond, not_toNat]
  omega

theorem lowPart_toNat (v : Byte) : (lowPart v).toNat = v.toNat % 16 := by
  rw [lowPart, BitVec.toNat_and]
  exact Nat.and_two_pow_sub_one_eq_mod v.toNat 4

/-- The high nibble in place is a multiple of 16 with the same number of sixteens. -/
theorem highPart_toNat (v : Byte) : (highPart v).toNat = 16 * (v.toNat / 16) := by
  have low : (v.toNat &&& 240) % 16 = 0 := by
    rw [Nat.and_mod_two_pow (n := 4), show 240 % 2 ^ 4 = 0 from rfl, Nat.and_zero]
  have high : (v.toNat &&& 240) / 16 = v.toNat / 16 % 16 := by
    rw [Nat.and_div_two_pow (n := 4), show 240 / 2 ^ 4 = 2 ^ 4 - 1 from rfl, Nat.and_two_pow_sub_one_eq_mod]
  have := v.isLt
  rw [highPart, BitVec.toNat_and, show (0xF0 : Byte).toNat = 240 from rfl]
  omega

/-! ### Binary mode (43_arith_logic.md R205, R206) -/

/-- The V of a binary sum: operands of one sign, and a result of the other, are a signed sum that does not fit. -/
theorem addOverflow_eq (a m : Byte) (c : Bool) :
    (~~~(a ^^^ m) &&& (a ^^^ BitVec.ofNat 8 (a.toNat + m.toNat + c.toNat))).msb =
      decide (a.toInt + m.toInt + c.toNat < -128 ∨ 127 < a.toInt + m.toInt + c.toNat) := by
  have ha := a.isLt
  have hm := m.isLt
  have hc := c.toNat_le
  have signs : (~~~(a ^^^ m) &&& (a ^^^ BitVec.ofNat 8 (a.toNat + m.toNat + c.toNat))).msb = true ↔
      (128 ≤ a.toNat ↔ 128 ≤ m.toNat) ∧ ¬(128 ≤ a.toNat ↔ 128 ≤ (a.toNat + m.toNat + c.toNat) % 256) := by
    rw [BitVec.msb_and, BitVec.msb_not, BitVec.msb_xor, BitVec.msb_xor, msb_ofNat, a.msb_eq_decide, m.msb_eq_decide]
    simp
  rw [Bool.eq_iff_iff, signs, decide_eq_true_iff, BitVec.toInt_eq_toNat_cond, BitVec.toInt_eq_toNat_cond]
  omega

theorem addBinary_eq (a m : Byte) (c : Bool) :
    addBinary a m c =
      { r := BitVec.ofNat 8 (a.toNat + m.toNat + c.toNat)
        n := decide (128 ≤ (a.toNat + m.toNat + c.toNat) % 256)
        v := decide (a.toInt + m.toInt + c.toNat < -128 ∨ 127 < a.toInt + m.toInt + c.toNat)
        z := decide ((a.toNat + m.toNat + c.toNat) % 256 = 0)
        c := decide (255 < a.toNat + m.toNat + c.toNat) } := by
  rw [addBinary, msb_ofNat, addOverflow_eq, ofNat_beq_zero]
  rfl

/-- Sub is Add of the complement, V included. -/
theorem subBinary_eq_addBinary (a m : Byte) (c : Bool) : subBinary a m c = addBinary a (~~~m) c := by
  have signs : ~~~(a ^^^ ~~~m) = a ^^^ m := by rw [BitVec.not_xor_right, BitVec.not_not]
  simp only [subBinary, addBinary, signs]

/-- The sum with the complement is 256 above the difference. -/
theorem subBinary_eq (a m : Byte) (c : Bool) :
    subBinary a m c =
      { r := BitVec.ofInt 8 (a.toNat - m.toNat - (!c).toNat)
        n := decide (((a.toNat : Int) - m.toNat - (!c).toNat) % 256 ≥ 128)
        v := decide (a.toInt - m.toInt - (!c).toNat < -128 ∨ 127 < a.toInt - m.toInt - (!c).toNat)
        z := decide (((a.toNat : Int) - m.toNat - (!c).toNat) % 256 = 0)
        c := decide (m.toNat + (!c).toNat ≤ a.toNat) } := by
  have hm := m.isLt
  have borrow := borrow_toNat c
  have complement := not_toNat m
  have signed := not_toInt m
  have sum : ((a.toNat + (~~~m).toNat + c.toNat : Nat) : Int) = (a.toNat : Int) - m.toNat - (!c).toNat + 256 := by
    omega
  rw [subBinary_eq_addBinary, addBinary_eq, AluResult.mk.injEq]
  refine ⟨?result, ?negative, ?overflow, ?zero, ?carry⟩
  case result =>
    rw [← BitVec.ofInt_natCast, sum]
    exact ofInt_congr (Int.add_emod_right _ _)
  case negative => exact decide_eq_decide.mpr (by omega)
  case overflow => exact decide_eq_decide.mpr (by omega)
  case zero => exact decide_eq_decide.mpr (by omega)
  case carry => exact decide_eq_decide.mpr (by omega)

/-- Settles O20: Add and Sub as above; in decimal mode only the result of Sub is another. -/
theorem binaryArithmeticIsExact : Obligations.BinaryArithmeticIsExact := by
  unfold Obligations.BinaryArithmeticIsExact
  exact fun a m c => ⟨addBinary_eq a m c, subBinary_eq a m c, rfl⟩

/-! ### Decimal mode of BCD operands (43_arith_logic.md R205, R206) -/

theorem decimalAddLow_eq (a m : Byte) (c : Bool) : decimalAddLow a m c =
    if 10 ≤ a.toNat % 16 + m.toNat % 16 + c.toNat then (a.toNat % 16 + m.toNat % 16 + c.toNat + 6) % 16 + 16
    else a.toNat % 16 + m.toNat % 16 + c.toNat := by
  simp only [decimalAddLow, lowPart_toNat]

/-- The value of a byte's two BCD digits. -/
def bcdValue (b : Byte) : Nat := 10 * (b.toNat / 16) + b.toNat % 16

/-- Both nibbles of a byte are decimal digits. -/
def IsBcd (b : Byte) : Prop := b.toNat % 16 < 10 ∧ b.toNat / 16 < 10

/-- The sum of two BCD operands, and the same digits in the model's sum before its high digit is adjusted. -/
theorem bcdSum_digits {a m : Byte} (c : Bool) (ha : IsBcd a) (hm : IsBcd m) :
    ∃ k t u, k ≤ 1 ∧ t < 10 ∧ u < 10 ∧ bcdValue a + bcdValue m + c.toNat = 100 * k + 10 * t + u ∧
      (highPart a).toNat + (highPart m).toNat + decimalAddLow a m c = 160 * k + 16 * t + u := by
  obtain ⟨aLow, aHigh⟩ := ha
  obtain ⟨mLow, mHigh⟩ := hm
  have hc := c.toNat_le
  have low (d : Nat) (hd : d < 20) : (if 10 ≤ d then (d + 6) % 16 + 16 else d) = 16 * (d / 10) + d % 10 := by
    split <;> omega
  rw [highPart_toNat, highPart_toNat, decimalAddLow_eq, low _ (by omega), bcdValue, bcdValue]
  generalize hd : a.toNat % 16 + m.toNat % 16 + c.toNat = d
  generalize hh : a.toNat / 16 + m.toNat / 16 + d / 10 = h
  exact ⟨h / 10, h % 10, d % 10, by omega, by omega, by omega, by omega, by omega⟩

/-- Decimal Add of BCD operands: both digits of the decimal sum, and its carry (R205). -/
theorem addDecimal_of_isBcd {a m : Byte} (c : Bool) (ha : IsBcd a) (hm : IsBcd m) :
    (addDecimal a m c).r = BitVec.ofNat 8
        (16 * ((bcdValue a + bcdValue m + c.toNat) % 100 / 10) + (bcdValue a + bcdValue m + c.toNat) % 10) ∧
      (addDecimal a m c).c = decide (100 ≤ bcdValue a + bcdValue m + c.toNat) := by
  obtain ⟨k, t, u, hk, ht, hu, value, sum⟩ := bcdSum_digits c ha hm
  have adjusted : (if 160 ≤ 160 * k + 16 * t + u then 160 * k + 16 * t + u + 96 else 160 * k + 16 * t + u) =
      256 * k + 16 * t + u := by split <;> omega
  simp only [addDecimal, sum, adjusted, value, show (100 * k + 10 * t + u) % 10 = u by omega,
    show (100 * k + 10 * t + u) % 100 / 10 = t by omega]
  exact ⟨ofNat_congr (by omega), decide_eq_decide.mpr (by omega)⟩

/-- The difference of two BCD operands, k being -1 where it borrows, and the same digits in the model's difference. -/
theorem bcdDifference_digits {a m : Byte} (c : Bool) (ha : IsBcd a) (hm : IsBcd m) :
    ∃ k t u : Int, -1 ≤ k ∧ k ≤ 0 ∧ (0 ≤ t ∧ t < 10) ∧ (0 ≤ u ∧ u < 10) ∧
      (bcdValue a : Int) - bcdValue m - (!c).toNat = 100 * k + 10 * t + u ∧
      subDecimalResult a m c = BitVec.ofInt 8 (256 * k + 16 * t + u) := by
  obtain ⟨aLow, aHigh⟩ := ha
  obtain ⟨mLow, mHigh⟩ := hm
  have borrow := borrow_toNat c
  have low (d : Int) (hd : -10 ≤ d ∧ d < 10) :
      (if d < 0 then (d - 6) % 16 - 16 else d) = 16 * (d / 10) + d % 10 := by
    split <;> omega
  simp only [subDecimalResult, lowPart_toNat, highPart_toNat, bcdValue]
  rw [low _ (by omega)]
  generalize hd : ((a.toNat % 16 : Nat) : Int) - (m.toNat % 16 : Nat) + c.toNat - 1 = d
  generalize hh : ((a.toNat / 16 : Nat) : Int) - (m.toNat / 16 : Nat) + d / 10 = h
  have digits : (16 * (a.toNat / 16) : Nat) - (16 * (m.toNat / 16) : Nat) + (16 * (d / 10) + d % 10) =
      16 * h + d % 10 := by omega
  refine ⟨h / 10, h % 10, d % 10, by omega, by omega, by omega, by omega, by omega, ?_⟩
  rw [digits]
  congr 1
  split <;> omega

/-- Decimal Sub of BCD operands: both digits of the decimal difference, and no borrow (R206). -/
theorem subDecimal_of_isBcd {a m : Byte} (c : Bool) (ha : IsBcd a) (hm : IsBcd m) :
    subDecimalResult a m c = BitVec.ofInt 8 (16 * (((bcdValue a : Int) - bcdValue m - (!c).toNat) % 100 / 10) +
        ((bcdValue a : Int) - bcdValue m - (!c).toNat) % 10) ∧
      (subBinary a m c).c = decide (0 ≤ (bcdValue a : Int) - bcdValue m - (!c).toNat) := by
  constructor
  · obtain ⟨k, t, u, -, -, ht, hu, value, result⟩ := bcdDifference_digits c ha hm
    rw [result, value, show (100 * k + 10 * t + u) % 10 = u by omega,
      show (100 * k + 10 * t + u) % 100 / 10 = t by omega]
    exact ofInt_congr (by omega)
  · obtain ⟨aLow, -⟩ := ha
    obtain ⟨mLow, -⟩ := hm
    rw [subBinary_eq, bcdValue, bcdValue]
    have hb := (!c).toNat_le
    exact decide_eq_decide.mpr (by omega)

/-! ### The NMOS flags of Add in decimal mode (43_arith_logic.md R205, R210) -/

theorem addDecimal_n (a m : Byte) (c : Bool) : (addDecimal a m c).n =
    decide (128 ≤ (16 * (a.toNat / 16) + 16 * (m.toNat / 16) + decimalAddLow a m c) % 256) := by
  simp only [addDecimal, highPart_toNat, Nat.testBit_eq_decide_div_mod_eq]
  exact decide_eq_decide.mpr (by omega)

theorem addDecimal_v (a m : Byte) (c : Bool) : (addDecimal a m c).v =
    decide ((highPart a).toInt + (highPart m).toInt + decimalAddLow a m c < -128 ∨
      127 < (highPart a).toInt + (highPart m).toInt + decimalAddLow a m c) :=
  (Bool.decide_or _ _).symm

theorem addDecimal_z (a m : Byte) (c : Bool) :
    (addDecimal a m c).z = decide ((a.toNat + m.toNat + c.toNat) % 256 = 0) :=
  ofNat_beq_zero _

/-- Settles O21: the digits of the sum and of the difference, the three flags, and the example by running it. -/
theorem decimalArithmeticIsBcd : Obligations.DecimalArithmeticIsBcd := by
  unfold Obligations.DecimalArithmeticIsBcd
  refine ⟨fun a m c aLow aHigh mLow mHigh => ⟨?add, ?sub⟩, fun a m c => ?flags, by decide⟩
  case add => exact addDecimal_of_isBcd c ⟨aLow, aHigh⟩ ⟨mLow, mHigh⟩
  case sub => exact subDecimal_of_isBcd c ⟨aLow, aHigh⟩ ⟨mLow, mHigh⟩
  case flags =>
    dsimp only
    rw [← decimalAddLow_eq]
    exact ⟨addDecimal_n a m c, addDecimal_v a m c, addDecimal_z a m c⟩

end Sys2Proof.Machine
end

section
/-! PROOFS of the family 43_arith_logic.md, continued: its instructions are READ and RMW operations that update the CPU
alone. -/

namespace Sys2Proof.Machine

/-! ### READ instructions (43_arith_logic.md R210 to R218) -/

/-- Compare sets the flags of R207: the sum with the complement and 1 is the difference, and carries if there is no
borrow. -/
theorem compare_eq_setP (s : State) (r m : Byte) : s.compare r m = s.setP (withCompare s.p r m) := by
  have hm := m.isLt
  have complement := not_toNat m
  have difference : BitVec.ofNat 8 (r.toNat + (~~~m).toNat + 1) = r - m := by
    apply BitVec.eq_of_toNat_eq
    rw [BitVec.toNat_ofNat, BitVec.toNat_sub]
    omega
  have n : (BitVec.ofNat 8 (r.toNat + (~~~m).toNat + 1)).msb = (r - m).getLsbD 7 := by
    rw [difference]
    rfl
  have c : decide (256 ≤ r.toNat + (~~~m).toNat + 1) = decide (m.toNat ≤ r.toNat) :=
    decide_eq_decide.mpr (by omega)
  simp only [State.compare, withCompare, n, c, beq_eq_decide]

/-- An arithmetic result of the CPU's registers, written to A and to the flags. -/
theorem CpuOp.alu {res : State → AluResult} (hres : ∀ s t, SameCpu s t → res t = res s) :
    CpuOp fun s => s.setAlu (res s) :=
  (CpuOp.unchanged.setA fun s t h => by rw [hres s t h]).setP fun s t h => by rw [hres s t h, h.p]

/-- A new value of A computed from the old one, with N and Z from it. -/
theorem CpuOp.setAWithNZ (f : Byte → Byte) : CpuOp fun s => (s.setA (f s.a)).setP (withNZ s.p (f s.a)) :=
  (CpuOp.unchanged.setA fun _ _ h => by rw [h.a]).setP fun _ _ h => by rw [h.a, h.p]

/-- A comparison of a register of the CPU. -/
theorem CpuOp.compare {r : State → Byte} (hr : ∀ s t, SameCpu s t → r t = r s) (m : Byte) :
    CpuOp fun s => s.setP (withCompare s.p (r s) m) :=
  CpuOp.unchanged.setP fun s t h => by rw [hr s t h, h.p]

/-- Settles O19: each reads its operand and writes what Add or Sub gives. -/
theorem addAndSubtractRun : Obligations.AddAndSubtractRun := by
  unfold Obligations.AddAndSubtractRun
  intro s i src h ho
  refine ⟨fun hm => ?adc, fun hm => ?sbc⟩
  case adc =>
    exact readRuns_of_readOp (g := fun m s => s.setAlu (addWith s.a m s.p.c s.p.d)) h
      (fun m => CpuOp.alu fun _ _ k => by rw [k.a, k.p]) (fun _ _ => rfl) (exec_eq hm ho (.adc src))
  case sbc =>
    exact readRuns_of_readOp (g := fun m s => s.setAlu (subWith s.a m s.p.c s.p.d)) h
      (fun m => CpuOp.alu fun _ _ k => by rw [k.a, k.p]) (fun _ _ => rfl) (exec_eq hm ho (.sbc src))

/-- Settles O22: AND, ORA and EOR write A with N and Z from it; BIT writes flags alone. -/
theorem logicAndBitRun : Obligations.LogicAndBitRun := by
  unfold Obligations.LogicAndBitRun
  intro s i src h ho
  refine ⟨fun hm => ?and, fun hm => ?ora, fun hm => ?eor, fun hm => ?bit⟩
  case and =>
    exact readRuns_of_readOp h (fun m => CpuOp.setAWithNZ (· &&& m)) (fun _ _ => rfl) (exec_eq hm ho (.and src))
  case ora =>
    exact readRuns_of_readOp h (fun m => CpuOp.setAWithNZ (· ||| m)) (fun _ _ => rfl) (exec_eq hm ho (.ora src))
  case eor =>
    exact readRuns_of_readOp h (fun m => CpuOp.setAWithNZ (· ^^^ m)) (fun _ _ => rfl) (exec_eq hm ho (.eor src))
  case bit =>
    exact readRuns_of_readOp h (fun m => CpuOp.unchanged.setP fun _ _ k => by rw [k.a, k.p]) (fun _ _ => rfl)
      (exec_eq hm ho (.bit src))

/-- An instruction that compares a register with its operand completes as ReadRuns says, with the flags of R207. -/
theorem readRuns_of_compare {i : Instr} {src : Source} {s : State} {r : State → Byte} (h : Ready s)
    (hr : ∀ s t, SameCpu s t → r t = r s) (e : exec i = readOp src fun m s => s.compare (r s) m) :
    ReadRuns i src s fun m s => s.setP (withCompare s.p (r s) m) := by
  simp only [compare_eq_setP] at e
  exact readRuns_of_readOp h (CpuOp.compare hr) (fun _ _ => rfl) e

/-- Settles O23: each reads its operand and sets the flags of a comparison with its register. -/
theorem comparesRun : Obligations.ComparesRun := by
  unfold Obligations.ComparesRun
  intro s i src h ho
  exact ⟨fun hm => readRuns_of_compare h (fun _ _ k => k.a) (exec_eq hm ho (.cmp src)),
    fun hm => readRuns_of_compare h (fun _ _ k => k.x) (exec_eq hm ho (.cpx src)),
    fun hm => readRuns_of_compare h (fun _ _ k => k.y) (exec_eq hm ho (.cpy src))⟩

/-! ### RMW instructions (43_arith_logic.md R219, R220; 40_addressing.md R160) -/

/-- An instruction that modifies memory and then updates the CPU alone completes as ModifyRuns says. -/
theorem modifyRuns_of_rmwOp {i : Instr} {m : MemMode} {s : State} {f : Byte → Byte} {g : Byte → State → State}
    (h : Ready s) (wf : s.mem.wf = true) (hg : ∀ v, CpuOp (g v)) (halted : ∀ v u, (g v u).halted = u.halted)
    (e : exec i s = rmwOp m f g s) : ModifyRuns i m s f g := by
  obtain ⟨ad, s1, s2, v, s3, u, w, e1, e2, e3, e4, e5, run, cpu, back, stored, -⟩ := rmwOp_ready m f g h wf
  exact ⟨ad, s1, s2, v, s3, u, w, g v w, e1, e2, e3, e4, e5, e.trans run, (hg v).sameBus (halted v w),
    (hg v).same s w cpu, back, stored.op (hg v)⟩

/-- Settles O24: each is an RMW operation that sets N and Z from the byte it stores last. -/
theorem incrementAndDecrementRun : Obligations.IncrementAndDecrementRun := by
  unfold Obligations.IncrementAndDecrementRun
  intro s i m h wf ho
  exact ⟨fun hm => modifyRuns_of_rmwOp h wf (fun v => CpuOp.unchanged.setWithNZ (v + 1)) (fun _ _ => rfl)
      (congrFun (exec_eq hm ho (.inc m)) s),
    fun hm => modifyRuns_of_rmwOp h wf (fun v => CpuOp.unchanged.setWithNZ (v - 1)) (fun _ _ => rfl)
      (congrFun (exec_eq hm ho (.dec m)) s)⟩

end Sys2Proof.Machine
end

section
/-! PROOFS of the family 44_shift_rotate.md: a shift doubles or halves a byte, a rotate puts the old C into the bit that
this leaves free, and C becomes the bit shifted out; the accumulator forms are implied operations, the memory forms RMW
operations. -/

namespace Sys2Proof.Machine

/-! ### The shifted byte as a number -/

theorem shiftLeft_eq (v : Byte) : shiftLeft v = BitVec.ofNat 8 (2 * v.toNat) := by
  apply BitVec.eq_of_toNat_eq
  rw [shiftLeft, BitVec.toNat_shiftLeft, Nat.shiftLeft_eq, BitVec.toNat_ofNat, Nat.pow_one, Nat.mul_comm]

theorem shiftRight_eq (v : Byte) : shiftRight v = BitVec.ofNat 8 (v.toNat / 2) := by
  have := v.isLt
  apply BitVec.eq_of_toNat_eq
  rw [shiftRight, BitVec.toNat_ushiftRight, Nat.shiftRight_eq_div_pow, BitVec.toNat_ofNat]
  omega

/-- The old C comes in below bit 0, and bit 7 is cut off. -/
theorem rotateLeft_eq (v : Byte) (c : Bool) : rotateLeft v c = BitVec.ofNat 8 (2 * v.toNat + c.toNat) := by
  have cut : rotateLeft v c = (v.concat c).setWidth 8 := by
    rw [← BitVec.append_ofBool, BitVec.setWidth_append_eq_shiftLeft_setWidth_or, BitVec.setWidth_eq, rotateLeft]
  apply BitVec.eq_of_toNat_eq
  rw [cut, BitVec.toNat_setWidth, BitVec.toNat_concat, BitVec.toNat_ofNat, Nat.mul_comm]

/-- Half of a byte has seven bits, so the old C adds 128. -/
theorem rotateRight_eq (v : Byte) (c : Bool) :
    rotateRight v c = BitVec.ofNat 8 (v.toNat / 2 + 128 * c.toNat) := by
  have := v.isLt
  have := c.toNat_le
  have half : v.toNat / 2 ^ 1 < 2 ^ 7 := by omega
  apply BitVec.eq_of_toNat_eq
  rw [rotateRight, BitVec.toNat_append, BitVec.extractLsb'_toNat, Nat.shiftRight_eq_div_pow, Nat.mod_eq_of_lt half,
    ← Nat.shiftLeft_add_eq_or_of_lt half, Nat.shiftLeft_eq, BitVec.toNat_ofBool, BitVec.toNat_ofNat]
  omega

/-! ### The bits that become flags -/

theorem getLsbD_zero_eq (v : Byte) : v.getLsbD 0 = decide (v.toNat % 2 = 1) := by
  rw [getLsbD_eq_decide, Nat.pow_zero, Nat.div_one]

/-- N after ROR is the old C (44_shift_rotate.md R233). -/
theorem withNZ_rotateRight_n (p : Status) (v : Byte) (c : Bool) :
    (withNZ p (BitVec.ofNat 8 (v.toNat / 2 + 128 * c.toNat))).n = c := by
  have := v.isLt
  have := c.toNat_le
  have bit : (v.toNat / 2 + 128 * c.toNat) % 2 ^ 8 / 2 ^ 7 % 2 = c.toNat := by omega
  rw [withNZ, getLsbD_eq_decide, BitVec.toNat_ofNat, bit]
  cases c <;> rfl

/-- N after LSR is 0 (44_shift_rotate.md R231). -/
theorem withNZ_shiftRight_n (p : Status) (v : Byte) : (withNZ p (BitVec.ofNat 8 (v.toNat / 2))).n = false :=
  withNZ_rotateRight_n p v false

/-! ### The two forms (40_addressing.md R141, R160) -/

/-- The model's flags of a shift are those of R186 with the bit shifted out as C. -/
theorem shiftFlags_eq_setP (c : Bool) (v : Byte) (s : State) :
    shiftFlags c v s = s.setP { withNZ s.p v with c := c } := rfl

/-- A and the flags may be written in either order. -/
theorem setP_setA (s : State) (p : Status) (v : Byte) : (s.setP p).setA v = (s.setA v).setP p := rfl

section shift
variable {i : Instr} {s : State} (r : Byte → Bool → Byte) (c : Byte → Bool) (h : Ready s)
include h

/-- An instruction that shifts A completes as ImpliedRuns says: r is the new A, from A and C, and c the new C. -/
theorem impliedRuns_of_shift
    (e : exec i = impliedOp fun s => (shiftFlags (c s.a) (r s.a s.p.c) s).setA (r s.a s.p.c)) :
    ImpliedRuns i s ((s.setA (r s.a s.p.c)).setP { withNZ s.p (r s.a s.p.c) with c := c s.a }) := by
  simp only [shiftFlags_eq_setP, setP_setA] at e
  have setA : CpuOp fun s => s.setA (r s.a s.p.c) := CpuOp.unchanged.setA fun _ _ k => by rw [k.a, k.p]
  exact impliedRuns_of_impliedOp h (setA.setP fun _ _ k => by rw [k.a, k.p]) (fun _ => rfl) e

/-- An instruction that shifts a byte of memory completes as ModifyRuns says: r is the new byte, from the byte read
and C, and c the new C. -/
theorem modifyRuns_of_shift {m : MemMode} (wf : s.mem.wf = true)
    (e : exec i s = rmwOp m (fun v => r v s.p.c) (fun v s => shiftFlags (c v) (r v s.p.c) s) s) :
    ModifyRuns i m s (fun v => r v s.p.c) fun v s => s.setP { withNZ s.p (r v s.p.c) with c := c v } := by
  simp only [shiftFlags_eq_setP] at e
  exact modifyRuns_of_rmwOp h wf (fun _ => CpuOp.unchanged.setP fun _ _ k => by rw [k.p]) (fun _ _ => rfl) e

end shift

/-- Settles O25: each is an implied operation that shifts A, and the shifted byte is the arithmetic one. -/
theorem accumulatorShiftsRun : Obligations.AccumulatorShiftsRun := by
  unfold Obligations.AccumulatorShiftsRun
  intro s h
  refine ⟨?asl, ?lsr, ?rol, ?ror⟩
  case asl =>
    simpa only [shiftLeft_eq, BitVec.msb_eq_decide] using
      impliedRuns_of_shift (i := .aslAcc) (fun v _ => shiftLeft v) BitVec.msb h rfl
  case lsr =>
    simpa only [shiftRight_eq, withNZ_shiftRight_n, getLsbD_zero_eq] using
      impliedRuns_of_shift (i := .lsrAcc) (fun v _ => shiftRight v) (BitVec.getLsbD · 0) h rfl
  case rol =>
    simpa only [rotateLeft_eq, BitVec.msb_eq_decide] using
      impliedRuns_of_shift (i := .rolAcc) rotateLeft BitVec.msb h rfl
  case ror =>
    simpa only [rotateRight_eq, withNZ_rotateRight_n, getLsbD_zero_eq] using
      impliedRuns_of_shift (i := .rorAcc) rotateRight (BitVec.getLsbD · 0) h rfl

/-- Settles O26: each is an RMW operation that shifts the byte read, and the shifted byte is the arithmetic one. -/
theorem memoryShiftsRun : Obligations.MemoryShiftsRun := by
  unfold Obligations.MemoryShiftsRun
  intro s i m h wf ho
  refine ⟨fun hm => ?asl, fun hm => ?lsr, fun hm => ?rol, fun hm => ?ror⟩
  case asl =>
    simpa only [shiftLeft_eq, BitVec.msb_eq_decide] using
      modifyRuns_of_shift (fun v _ => shiftLeft v) BitVec.msb h wf (congrFun (exec_eq hm ho (.asl m)) s)
  case lsr =>
    simpa only [shiftRight_eq, withNZ_shiftRight_n, getLsbD_zero_eq] using
      modifyRuns_of_shift (fun v _ => shiftRight v) (BitVec.getLsbD · 0) h wf
        (congrFun (exec_eq hm ho (.lsr m)) s)
  case rol =>
    simpa only [rotateLeft_eq, BitVec.msb_eq_decide] using
      modifyRuns_of_shift rotateLeft BitVec.msb h wf (congrFun (exec_eq hm ho (.rol m)) s)
  case ror =>
    simpa only [rotateRight_eq, withNZ_rotateRight_n, getLsbD_zero_eq] using
      modifyRuns_of_shift rotateRight (BitVec.getLsbD · 0) h wf (congrFun (exec_eq hm ho (.ror m)) s)

end Sys2Proof.Machine
end

section
/-! PROOFS of the family 45_flags_nop.md: a flag instruction is an implied operation that updates the status alone, and
a NOP is the dummy read of its implied form or the READ sequence of its operand, with no update after it. -/

namespace Sys2Proof.Machine

/-! ### Flag instructions (45_flags_nop.md R240 to R246) -/

/-- An instruction that computes new flags from the old ones completes as ImpliedRuns says. -/
theorem impliedRuns_of_status {i : Instr} {s : State} (f : Status → Status) (h : Ready s)
    (e : exec i = impliedOp fun s => s.setP (f s.p)) : ImpliedRuns i s (s.setP (f s.p)) :=
  impliedRuns_of_impliedOp h (CpuOp.unchanged.setP fun _ _ k => congrArg f k.p) (fun _ => rfl) e

/-! ### NOP (45_flags_nop.md R247, 47_undocumented.md R285) -/

/-- An implied NOP makes its dummy read of PC and changes nothing. -/
theorem impliedRuns_nop {i : Instr} {s : State} (h : Ready s) (hm : i.mnemonic = .nop) (ho : i.operand = .implied) :
    ImpliedRuns i s s :=
  impliedRuns_of_impliedOp h CpuOp.unchanged (fun _ => rfl) (exec_eq hm ho .nopImplied)

/-- A NOP with an operand answers the very state that reading the operand leaves. -/
theorem exec_nop_source {i : Instr} {src : Source} {s : State} (h : Ready s) (hm : i.mnemonic = .nop)
    (ho : i.operand = .source src) :
    ∃ m s1, readSource src s = .next (m, s1) ∧ exec i s = .next s1 ∧ Frame s s1 := by
  obtain ⟨m, s1, c, crossed, e, r, -⟩ := readSource_ready src h
  exact ⟨m, s1, e, by simp only [exec_eq hm ho (.nop src), opNop, readOp, e, andThen_next], r.frame.ofCur⟩

/-- The operands of NOP: none, or one that it reads. -/
theorem Meaning.nop_operand {op : Byte} {o : Operand} {run : State → Out} (h : Meaning op .nop o run) :
    o = .implied ∨ ∃ src, o = .source src := by
  cases h with
  | nopImplied => exact .inl rfl
  | nop src => exact .inr ⟨src, rfl⟩

/-- Settles O27: each flag instruction is an implied operation on the status, and each NOP has an operand of one of the
two forms. -/
theorem flagInstructionsAndNopsRun : Obligations.FlagInstructionsAndNopsRun := by
  unfold Obligations.FlagInstructionsAndNopsRun
  intro s h
  refine ⟨?clc, ?sec, ?cli, ?sei, ?cld, ?sed, ?clv, fun i hm => ⟨?implied, fun src => ?source, ?operand⟩⟩
  case clc => exact impliedRuns_of_status (fun p => { p with c := false }) h rfl
  case sec => exact impliedRuns_of_status (fun p => { p with c := true }) h rfl
  case cli => exact impliedRuns_of_status (fun p => { p with i := false }) h rfl
  case sei => exact impliedRuns_of_status (fun p => { p with i := true }) h rfl
  case cld => exact impliedRuns_of_status (fun p => { p with d := false }) h rfl
  case sed => exact impliedRuns_of_status (fun p => { p with d := true }) h rfl
  case clv => exact impliedRuns_of_status (fun p => { p with v := false }) h rfl
  case implied => exact impliedRuns_nop h hm
  case source => exact exec_nop_source h hm
  case operand => exact Meaning.nop_operand (hm ▸ exec_meaning i)

end Sys2Proof.Machine
end

section
/-! PROOFS of the family 46_control.md: a branch is no bus cycle, one dummy read of PC, or two; JSR and BRK push their
bytes by write cycles at $0100 + SP, RTS and RTI pull theirs by read cycles at $0100 + SP + 1. -/

namespace Sys2Proof

/-- The sum with a sign-extended offset is the signed one modulo 2^16 (00_scope.md R10). -/
theorem add_sext16 (w : Word) (off : Byte) : w + sext16 off = BitVec.ofInt 16 (w.toNat + off.toInt) := by
  rw [BitVec.ofInt_add, BitVec.ofInt_natCast, BitVec.ofNat_toNat, BitVec.setWidth_eq]
  rfl

end Sys2Proof

namespace Sys2Proof.Machine

/-! ### Read cycles (00_scope.md R11) -/

/-- A read cycle answers a byte and is one cycle without a write. -/
theorem memRead_ran {s : State} (addr : Word) (h : Ready s) : ∃ v t, memRead addr s = .next (v, t) ∧ Ran 1 s t :=
  let ⟨_, t, _, e, _, r⟩ := memRead_ready addr h
  ⟨_, t, e, r⟩

/-! ### Branches (46_control.md R250 to R258) -/

/-- What each branch mnemonic takes from the flags to go by. -/
def branchConditions (p : Status) : List (Mnemonic × Bool) :=
  [(.bcc, !p.c), (.bcs, p.c), (.beq, p.z), (.bne, !p.z), (.bmi, p.n), (.bpl, !p.n), (.bvc, !p.v), (.bvs, p.v)]

/-- A branch runs the branch sequence on its condition. -/
theorem exec_branch {i : Instr} {off : Byte} {cond : Bool} {s : State} (ho : i.operand = .relative off)
    (hc : (i.mnemonic, cond) ∈ branchConditions s.p) : exec i s = opBranch cond off s := by
  simp only [branchConditions, List.mem_cons, Prod.mk.injEq, List.not_mem_nil, or_false] at hc
  obtain ⟨hm, rfl⟩ | ⟨hm, rfl⟩ | ⟨hm, rfl⟩ | ⟨hm, rfl⟩ | ⟨hm, rfl⟩ | ⟨hm, rfl⟩ | ⟨hm, rfl⟩ | ⟨hm, rfl⟩ := hc
  · exact congrFun (exec_eq hm ho (.bcc off)) s
  · exact congrFun (exec_eq hm ho (.bcs off)) s
  · exact congrFun (exec_eq hm ho (.beq off)) s
  · exact congrFun (exec_eq hm ho (.bne off)) s
  · exact congrFun (exec_eq hm ho (.bmi off)) s
  · exact congrFun (exec_eq hm ho (.bpl off)) s
  · exact congrFun (exec_eq hm ho (.bvc off)) s
  · exact congrFun (exec_eq hm ho (.bvs off)) s

/-- A branch taken within its page makes one dummy read. -/
theorem opBranch_within {s s1 : State} {off : Byte} (e1 : dummyRead s.pc s = .next s1) (r1 : Ran 1 s s1)
    (page : hiByte (s.pc + sext16 off) = hiByte s.pc) :
    opBranch true off s = .next (s1.setPc (s.pc + sext16 off)) := by
  simp only [opBranch, if_true, e1, andThen_next, r1.frame.cpu.pc, if_pos page]

/-- A branch taken to another page makes a second one, at the target in PC's page. -/
theorem opBranch_across {s s1 s2 : State} {off : Byte} (e1 : dummyRead s.pc s = .next s1) (r1 : Ran 1 s s1)
    (e2 : dummyRead (word (hiByte s.pc) (loByte (s.pc + sext16 off))) s1 = .next s2) (r2 : Ran 1 s1 s2)
    (page : hiByte (s.pc + sext16 off) ≠ hiByte s.pc) :
    opBranch true off s = .next ((s2.setPc (s.pc + sext16 off)).notePageCrossed true) := by
  simp only [opBranch, if_true, e1, andThen_next, r1.frame.cpu.pc, if_neg page, e2, r2.frame.cpu.pc]

/-- Settles O28: the branch sequence, not taken, taken within the page and taken across it. -/
theorem branchesRun : Obligations.BranchesRun := by
  unfold Obligations.BranchesRun
  intro s i off cond h ho hc
  rw [exec_branch ho hc, ← add_sext16]
  obtain ⟨s1, e1, r1⟩ := dummyRead_ready s.pc h
  cases cond with
  | false =>
    exact ⟨s, rfl, (Ran.refl h).frame, fun _ => CpuOp.unchanged.sameBus rfl, nofun, rfl, (Bool.or_false _).symm⟩
  | true =>
    by_cases page : hiByte (s.pc + sext16 off) = hiByte s.pc
    · have within : decide (hiByte (s.pc + sext16 off) ≠ hiByte s.pc) = false := decide_eq_false (not_not_intro page)
      simp only [within]
      refine ⟨_, opBranch_within e1 r1 page, r1.frame.op (setPc_op _), nofun,
        fun _ => ⟨s1, e1, fun _ => (setPc_op _).sameBus rfl, nofun⟩, ?cycles, ?crossed⟩
      case cycles => exact congrArg LastResult.cycles r1.cur
      case crossed => exact (congrArg LastResult.pageCrossed r1.cur).trans (Bool.or_false _).symm
    · have across : decide (hiByte (s.pc + sext16 off) ≠ hiByte s.pc) = true := decide_eq_true page
      simp only [across]
      obtain ⟨s2, e2, r2⟩ := dummyRead_ready (word (hiByte s.pc) (loByte (s.pc + sext16 off))) r1.ready
      refine ⟨_, opBranch_across e1 r1 e2 r2 page, ((r1.trans r2).frame.op (setPc_op _)).setCur _, nofun,
        fun _ => ⟨s1, e1, nofun, fun _ => ⟨s2, e2, ⟨rfl, rfl, rfl, rfl, rfl, rfl, rfl, rfl⟩⟩⟩, ?cycles, ?crossed⟩
      case cycles => exact congrArg LastResult.cycles (r1.trans r2).cur
      case crossed => exact (Bool.or_true _).symm

/-! ### Pushes (10_state.md R31; 46_control.md R260, R262) -/

/-- A store stays one when the CPU alone is updated before it. -/
theorem Stored.ofOp {f : State → State} (hf : CpuOp f) {addr : Word} {v : Byte} {s t : State}
    (h : Stored addr v (f s) t) : Stored addr v s t where
  byte := h.byte
  others := hf.mem s ▸ h.others
  tia := hf.tia s ▸ h.tia
  riot := hf.riot s ▸ h.riot
  rom := hf.cart s ▸ h.rom
  ready := h.ready

/-- From s, whose SP is sp, a push of v runs the write cycle that ends in u; SP - 1 follows it. -/
structure Pushes (sp v : Byte) (s u : State) : Prop where
  write  : memWrite (0x0100 + zext16 sp) v s = .next u
  run    : push v s = .next (u.setSp (sp - 1))
  stored : Stored (0x0100 + zext16 sp) v s u
  cpu    : SameCpu s u
  wf     : u.mem.wf = true
  cycles : u.cur.cycles = s.cur.cycles + 1

theorem push_pushes {sp : Byte} {s : State} (v : Byte) (h : Ready s) (wf : s.mem.wf = true) (hsp : s.sp = sp) :
    ∃ u, Pushes sp v s u := by
  subst hsp
  obtain ⟨u, e, run, w, hcur⟩ := push_ready v h
  rw [stackAddr_eq] at e w
  exact ⟨u, e, run, w.stored wf, w.cpu, w.lived.mem wf, congrArg LastResult.cycles hcur⟩

/-- From s both bytes of PC are pushed, the high one first, by the write cycles that end in u and v; s0 has the CPU and
the memory of s. -/
structure PushesPc (s0 s u v : State) : Prop where
  writeHi  : memWrite (0x0100 + zext16 s0.sp) (hiByte s0.pc) s = .next u
  writeLo  : memWrite (0x0100 + zext16 (s0.sp - 1)) (loByte s0.pc) (u.setSp (s0.sp - 1)) = .next v
  storedHi : Stored (0x0100 + zext16 s0.sp) (hiByte s0.pc) s0 u
  storedLo : Stored (0x0100 + zext16 (s0.sp - 1)) (loByte s0.pc) u v
  cpu      : SameCpu (s0.setSp (s0.sp - 1)) v
  wf       : v.mem.wf = true
  cycles   : v.cur.cycles = s.cur.cycles + 2
  run      : ∀ k : State → Out, andThen (push (hiByte s.pc) s) (fun s => andThen (push (loByte s.pc) s) k) =
    k (v.setSp (s0.sp - 2))

theorem pushPc_pushes {n : Nat} {s0 s : State} (r : Ran n s0 s) (wf : s0.mem.wf = true) :
    ∃ u v, PushesPc s0 s u v := by
  have cpu := r.frame.cpu
  obtain ⟨u, hi⟩ := push_pushes (hiByte s0.pc) r.ready (r.lived.mem wf) cpu.sp
  obtain ⟨v, lo⟩ := push_pushes (s := u.setSp (s0.sp - 1)) (loByte s0.pc) hi.stored.ready hi.wf
    (State.setSp_sp u _)
  have sp : s0.sp - 1 - 1 = s0.sp - 2 := by bv_omega
  refine ⟨u, v, hi.write, lo.write, Stored.after r hi.stored, lo.stored.ofOp (setSp_op _),
    ((setSp_op _).same _ _ (cpu.trans hi.cpu)).trans lo.cpu, lo.wf, ?cycles, fun k => ?run⟩
  case cycles => rw [lo.cycles, State.setSp_cur, hi.cycles]
  case run => simp only [cpu.pc, hi.run, andThen_next, State.setSp_pc, hi.cpu.pc, lo.run, sp]

/-- Settles O30: both bytes of PC are pushed, then the byte at PC is read. -/
theorem jsrRuns : Obligations.JsrRuns := by
  unfold Obligations.JsrRuns
  intro s w h wf
  obtain ⟨s1, e1, r1⟩ := dummyRead_ready (0x0100 + zext16 s.sp) h
  obtain ⟨u, v, p⟩ := pushPc_pushes r1 wf
  have hv : Ready (v.setSp (s.sp - 2)) := p.storedLo.ready
  obtain ⟨hi, x, e2, r2⟩ := memRead_ran s.pc hv
  refine ⟨s1, u, v, hi, x, (x.noteEa (word hi (loByte w))).setPc (word hi (loByte w)), e1, p.writeHi, p.writeLo, e2,
    (Ran.refl hv).memRead_plain e2, p.storedHi, p.storedLo, p.cpu, ?run,
    ⟨rfl, rfl, rfl, rfl, rfl, rfl, rfl, rfl⟩, (r2.frame.setCur _).op (setPc_op _), ?cycles⟩
  case run =>
    change opJsr w s = _
    have pc : (v.setSp (s.sp - 2)).pc = s.pc := p.cpu.pc
    simp only [opJsr, stackAddr_eq, e1, andThen_next, p.run, pc, e2]
  case cycles =>
    change x.cur.cycles = _
    rw [r2.cur, State.setSp_cur, p.cycles, r1.cur]

/-! ### Interrupts (46_control.md R262; 60_exceptions.md R304, R315) -/

/-- The interrupt sequence completes from s, which has the CPU and the memory of s0: PC and P are pushed, I is set after
the vector's low byte is read, and PC comes from the vector. -/
theorem takeInterrupt_ready {n : Nat} {s0 s : State} (vec : Word) (b : Bool) (r : Ran n s0 s)
    (wf : s0.mem.wf = true) :
    ∃ u v w lo x hi y, PushesPc s0 s u v ∧
      memWrite (0x0100 + zext16 (s0.sp - 2)) (flagByte s0.p b) (v.setSp (s0.sp - 2)) = .next w ∧
      memRead vec (w.setSp (s0.sp - 3)) = .next (lo, x) ∧
      memRead (vec + 1) (x.setP { s0.p with i := true }) = .next (hi, y) ∧
      Stored (0x0100 + zext16 (s0.sp - 2)) (flagByte s0.p b) v w ∧ SameCpu (s0.setSp (s0.sp - 2)) w ∧
      takeInterrupt vec b s = .next (y.setPc (word hi lo)) ∧
      Frame ((w.setSp (s0.sp - 3)).setP { s0.p with i := true }) y ∧ y.cur.cycles = s.cur.cycles + 5 := by
  obtain ⟨u, v, p⟩ := pushPc_pushes r wf
  obtain ⟨w, q⟩ := push_pushes (s := v.setSp (s0.sp - 2)) (flagByte s0.p b) p.storedLo.ready p.wf
    (State.setSp_sp v _)
  have cpuw : SameCpu (s0.setSp (s0.sp - 2)) w :=
    ((setSp_op (s0.sp - 2)).same (s0.setSp (s0.sp - 1)) v p.cpu).trans q.cpu
  have setI : CpuOp (State.setP · { s0.p with i := true }) := CpuOp.unchanged.setP fun _ _ _ => rfl
  have hw : Ready (w.setSp (s0.sp - 3)) := q.stored.ready
  obtain ⟨lo, x, e1, r1⟩ := memRead_ran vec hw
  obtain ⟨hi, y, e2, r2⟩ := memRead_ran (vec + 1) (r1.op setI).ready
  have ry : Ran 2 ((w.setSp (s0.sp - 3)).setP { s0.p with i := true }) y := (r1.op setI).trans r2
  refine ⟨u, v, w, lo, x, hi, y, p, q.write, e1, e2, q.stored.ofOp (setSp_op _), cpuw, ?run, ry.frame, ?cycles⟩
  case run =>
    have sp : s0.sp - 2 - 1 = s0.sp - 3 := by bv_omega
    have pv : (v.setSp (s0.sp - 2)).p = s0.p := p.cpu.p
    have px : x.p = s0.p := r1.frame.cpu.p.trans cpuw.p
    simp only [takeInterrupt, p.run, pv, pushed_eq_flagByte, q.run, sp, andThen_next, e1, px, e2]
  case cycles => rw [ry.cur, State.setP_cur, State.setSp_cur, q.cycles, State.setSp_cur, p.cycles]

/-- An increment of PC reports ProgramCounterCycled if it wraps, else nothing (60_exceptions.md R304). -/
theorem incPc_reports_append (s : State) :
    s.incPc.reports = s.reports ++ if s.pc = 0xFFFF then [.programCounterCycled] else [] := by
  rw [State.incPc_reports]
  split
  · rfl
  · exact (List.append_nil _).symm

/-- Settles O32: a dummy read of PC and its increment, then the interrupt sequence with B' = 1. -/
theorem brkRuns : Obligations.BrkRuns := by
  unfold Obligations.BrkRuns
  intro s h wf
  obtain ⟨s1, e1, r1⟩ := dummyRead_ready s.pc h
  obtain ⟨u, v, w, lo, x, hi, y, p, writeP, e2, e3, storedP, cpuw, run, frame, cycles⟩ :=
    takeInterrupt_ready irqVector true (r1.op incPc_op) wf
  refine ⟨s1, u, v, w, lo, x, hi, y, y.setPc (word hi lo), e1, p.writeHi, p.writeLo, writeP, e2, e3,
    p.storedHi.ofOp incPc_op, p.storedLo, storedP, cpuw, ?run, (setPc_op _).sameBus rfl, frame.op (setPc_op _),
    ?reports, ?cycles⟩
  case run =>
    change opBrk s = _
    rw [opBrk, e1, andThen_next, run]
  case reports => exact (frame.cpu.reports.trans cpuw.reports).trans (incPc_reports_append s)
  case cycles =>
    change y.cur.cycles = _
    rw [cycles, State.incPc_cur, r1.cur]

/-! ### Pulls (10_state.md R31; 46_control.md R261, R263) -/

/-- RTS and RTI begin with dummy reads of PC and of $0100 + SP. -/
theorem stackDummies_ready {s : State} (h : Ready s) :
    ∃ s1 s2, dummyRead s.pc s = .next s1 ∧ dummyRead (0x0100 + zext16 s.sp) s1 = .next s2 ∧ Ran 2 s s2 ∧
      ∀ k : State → Out, andThen (dummyRead s.pc s) (fun s => andThen (dummyRead (stackAddr s) s) k) = k s2 := by
  obtain ⟨s1, e1, r1⟩ := dummyRead_ready s.pc h
  obtain ⟨s2, e2, r2⟩ := dummyRead_ready (0x0100 + zext16 s.sp) r1.ready
  exact ⟨s1, s2, e1, e2, r1.trans r2, fun k => by simp only [e1, andThen_next, stackAddr_eq, r1.frame.cpu.sp, e2]⟩

/-- From s, whose SP is one below sp, a pull reads v by the read cycle that ends in t; sp follows it. -/
structure Pulls (sp : Byte) (s : State) (v : Byte) (t : State) : Prop where
  read  : memRead (0x0100 + zext16 sp) s = .next (v, t)
  run   : pull s = .next (v, t.setSp sp)
  ran   : Ran 1 (s.setSp sp) (t.setSp sp)
  plain : ∀ b, plainByte s (0x0100 + zext16 sp) = some b → v = b

theorem pull_pulls {sp : Byte} {s : State} (h : Ready s) (hsp : s.sp + 1 = sp) : ∃ v t, Pulls sp s v t := by
  subst hsp
  obtain ⟨v, t, e, run, r⟩ := pull_ready h
  rw [word_one] at e
  exact ⟨v, t, e, run, r, (Ran.refl h).memRead_plain e⟩

/-- From s two bytes are pulled, the low one first, by the read cycles that end in t and u; spLo and spHi are the values
of SP after them. -/
structure PullsPc (spLo spHi : Byte) (s : State) (lo : Byte) (t : State) (hi : Byte) (u : State) : Prop where
  readLo  : memRead (0x0100 + zext16 spLo) s = .next (lo, t)
  readHi  : memRead (0x0100 + zext16 spHi) (t.setSp spLo) = .next (hi, u)
  plainLo : ∀ b, plainByte s (0x0100 + zext16 spLo) = some b → lo = b
  plainHi : ∀ b, plainByte s (0x0100 + zext16 spHi) = some b → hi = b
  ran     : Ran 2 (s.setSp spHi) (u.setSp spHi)
  run     : ∀ k : Byte × State → Byte × State → Out,
    andThen (pull s) (fun lo => andThen (pull lo.2) (k lo)) = k (lo, t.setSp spLo) (hi, u.setSp spHi)

theorem pullPc_pulls {spLo spHi : Byte} {s : State} (h : Ready s) (hlo : s.sp + 1 = spLo) (hhi : spLo + 1 = spHi) :
    ∃ lo t hi u, PullsPc spLo spHi s lo t hi u := by
  obtain ⟨lo, t, p⟩ := pull_pulls h hlo
  obtain ⟨hi, u, q⟩ := pull_pulls (s := t.setSp spLo) p.ran.ready hhi
  exact ⟨lo, t, hi, u, p.read, q.read, p.plain, fun b hb => q.plain b (p.ran.plainByte hb),
    (p.ran.op (setSp_op spHi)).trans q.ran, fun k => by simp only [p.run, andThen_next, q.run]⟩

/-- Settles O31: PC's bytes are pulled, and the word is incremented after a dummy read at it. -/
theorem rtsRuns : Obligations.RtsRuns := by
  unfold Obligations.RtsRuns
  intro s h
  obtain ⟨s1, s2, e1, e2, r, run⟩ := stackDummies_ready h
  have spLo : s2.sp + 1 = s.sp + 1 := congrArg (· + 1) r.frame.cpu.sp
  have spHi : s.sp + 1 + 1 = s.sp + 2 := by bv_omega
  obtain ⟨lo, s3, hi, s4, p⟩ := pullPc_pulls r.ready spLo spHi
  obtain ⟨s5, e5, r5⟩ := dummyRead_ready (word hi lo) p.ran.ready
  have r' : Ran 5 (s.setSp (s.sp + 2)) s5 := ((r.op (setSp_op _)).trans p.ran).trans r5
  have frame : Frame ((s.setSp (s.sp + 2)).setPc (word hi lo)).incPc (s5.setPc (word hi lo)).incPc :=
    (r'.frame.op (setPc_op _)).op incPc_op
  refine ⟨s1, s2, lo, s3, hi, s4, s5, (s5.setPc (word hi lo)).incPc, e1, e2, p.readLo, p.readHi, e5,
    fun b hb => p.plainLo b (r.plainByte hb), fun b hb => p.plainHi b (r.plainByte hb), ?run,
    ⟨rfl, rfl, rfl, rfl, rfl, rfl, rfl, rfl⟩, frame, rfl, frame.cpu.reports.trans (incPc_reports_append _),
    congrArg LastResult.cycles r'.cur⟩
  case run =>
    change opRts s = _
    simp only [opRts, run, p.run, e5, andThen_next]

/-- Settles O33: the flags are pulled, then PC's bytes. -/
theorem rtiRuns : Obligations.RtiRuns := by
  unfold Obligations.RtiRuns
  intro s h
  obtain ⟨s1, s2, e1, e2, r, run⟩ := stackDummies_ready h
  have spP : s2.sp + 1 = s.sp + 1 := congrArg (· + 1) r.frame.cpu.sp
  have spLo : s.sp + 1 + 1 = s.sp + 2 := by bv_omega
  have spHi : s.sp + 2 + 1 = s.sp + 3 := by bv_omega
  obtain ⟨p, s3, q⟩ := pull_pulls r.ready spP
  have setP : CpuOp (State.setP · (flagsOf p)) := CpuOp.unchanged.setP fun _ _ _ => rfl
  have r3 : Ran 3 ((s.setSp (s.sp + 1)).setP (flagsOf p)) ((s3.setSp (s.sp + 1)).setP (flagsOf p)) :=
    ((r.op (setSp_op _)).trans q.ran).op setP
  obtain ⟨lo, s4, hi, s5, w⟩ := pullPc_pulls r3.ready spLo spHi
  have r' : Ran 5 ((s.setSp (s.sp + 3)).setP (flagsOf p)) (s5.setSp (s.sp + 3)) :=
    (r3.op (setSp_op _)).trans w.ran
  refine ⟨s1, s2, p, s3, lo, s4, hi, s5, (s5.setSp (s.sp + 3)).setPc (word hi lo), e1, e2, q.read, w.readLo, w.readHi,
    fun b hb => q.plain b (r.plainByte hb), fun b hb => w.plainLo b (r3.plainByte hb),
    fun b hb => w.plainHi b (r3.plainByte hb), ?run, ⟨rfl, rfl, rfl, rfl, rfl, rfl, rfl, rfl⟩,
    r'.frame.op (setPc_op _), congrArg LastResult.cycles r'.cur⟩
  case run =>
    change opRti s = _
    simp only [opRti, run, returnFromInterrupt, q.run, andThen_next, pulled_eq_flagsOf, w.run]

end Sys2Proof.Machine
end

section
/-! PROOFS of the family 47_undocumented.md: its RMW instructions store a byte and update A and the flags, and those
with an immediate operand update A or X and the flags. -/

namespace Sys2Proof.Machine

/-! ### Updates of a register and the flags -/

/-- A new value of A computed from the old one, with N and Z from it, and a C computed from the old A. -/
theorem CpuOp.setAWithNZC (f : Byte → Byte) (c : Byte → Bool) :
    CpuOp fun s => (s.setA (f s.a)).setP { withNZ s.p (f s.a) with c := c s.a } :=
  (CpuOp.unchanged.setA fun _ _ k => by rw [k.a]).setP fun _ _ k => by rw [k.a, k.p]

/-- What ReadRuns says depends on the update of the state before the instruction alone. -/
theorem ReadRuns.congr {i : Instr} {src : Source} {s : State} {g g' : Byte → State → State} (h : ReadRuns i src s g)
    (e : ∀ m, g m s = g' m s) : ReadRuns i src s g' := by
  obtain ⟨m, u, t, eu, et, bus, frame⟩ := h
  exact ⟨m, u, t, eu, et, bus, e m ▸ frame⟩

/-! ### RMW instructions (47_undocumented.md R277 to R279) -/

theorem opDcp_eq (m : MemMode) :
    opDcp m = rmwOp m (fun v => v - 1) fun v s => s.setP (withCompare s.p s.a (v - 1)) := by
  funext s
  simp only [opDcp, compare_eq_setP]

theorem opSlo_eq (m : MemMode) : opSlo m = rmwOp m (fun v => BitVec.ofNat 8 (2 * v.toNat)) fun v s =>
    (s.setA (s.a ||| BitVec.ofNat 8 (2 * v.toNat))).setP
      { withNZ s.p (s.a ||| BitVec.ofNat 8 (2 * v.toNat)) with c := decide (128 ≤ v.toNat) } := by
  funext s
  simp only [opSlo, funext shiftLeft_eq, BitVec.msb_eq_decide]
  rfl

/-- Settles O35: each is an RMW operation whose update is that of CMP, of SBC and of ORA with the byte stored last. -/
theorem undocumentedModifyRuns : Obligations.UndocumentedModifyRuns := by
  unfold Obligations.UndocumentedModifyRuns
  intro s i m h wf ho
  refine ⟨fun hm => ?dcp, fun hm => ?isc, fun hm => ?slo⟩
  case dcp =>
    exact modifyRuns_of_rmwOp h wf (fun v => CpuOp.compare (fun _ _ k => k.a) (v - 1)) (fun _ _ => rfl)
      (congrFun ((exec_eq hm ho (.dcp m)).trans (opDcp_eq m)) s)
  case isc =>
    exact modifyRuns_of_rmwOp (g := fun v s => s.setAlu (subWith s.a (v + 1) s.p.c s.p.d)) h wf
      (fun _ => CpuOp.alu fun _ _ k => by rw [k.a, k.p]) (fun _ _ => rfl) (congrFun (exec_eq hm ho (.isc m)) s)
  case slo =>
    exact modifyRuns_of_rmwOp h wf
      (fun v => CpuOp.setAWithNZC (· ||| BitVec.ofNat 8 (2 * v.toNat)) fun _ => decide (128 ≤ v.toNat))
      (fun _ _ => rfl) (congrFun ((exec_eq hm ho (.slo m)).trans (opSlo_eq m)) s)

/-! ### ANC, ALR and AXS (47_undocumented.md R280, R281, R284) -/

theorem opAnc_eq (src : Source) : opAnc src = readOp src fun m s =>
    (s.setA (s.a &&& m)).setP { withNZ s.p (s.a &&& m) with c := (s.a &&& m).getLsbD 7 } := rfl

theorem opAlr_eq (src : Source) : opAlr src = readOp src fun m s =>
    (s.setA (BitVec.ofNat 8 ((s.a &&& m).toNat / 2))).setP
      { withNZ s.p (BitVec.ofNat 8 ((s.a &&& m).toNat / 2)) with c := decide ((s.a &&& m).toNat % 2 = 1) } := by
  funext s
  simp only [opAlr, shiftRight_eq, getLsbD_zero_eq]
  rfl

/-- The 9-bit sum is 256 above the difference. -/
theorem axsSum_eq (a x m : Byte) : axsSum a x m + m.toNat = 256 + (a &&& x).toNat := by
  have hm := m.isLt
  rw [axsSum, not_toNat]
  omega

theorem ofNat_axsSum (a x m : Byte) : BitVec.ofNat 8 (axsSum a x m) = (a &&& x) - m := by
  have sum := axsSum_eq a x m
  apply BitVec.eq_of_toNat_eq
  rw [BitVec.toNat_ofNat, BitVec.toNat_sub]
  omega

theorem axsSum_carries (a x m : Byte) : decide (256 ≤ axsSum a x m) = decide (m.toNat ≤ (a &&& x).toNat) := by
  have sum := axsSum_eq a x m
  exact decide_eq_decide.mpr (by omega)

theorem opAxs_eq (src : Source) : opAxs src = readOp src fun m s =>
    (s.setX ((s.a &&& s.x) - m)).setP
      { withNZ s.p ((s.a &&& s.x) - m) with c := decide (m.toNat ≤ (s.a &&& s.x).toNat) } := by
  funext s
  simp only [opAxs, ofNat_axsSum, axsSum_carries]
  rfl

/-! ### ARR (47_undocumented.md R282) -/

theorem arrBinary_eq (t : Byte) (c : Bool) : arrBinary t c =
    let r : Byte := BitVec.ofNat 8 (t.toNat / 2 + 128 * c.toNat)
    { r := r, n := r.getLsbD 7, v := r.getLsbD 6 != r.getLsbD 5, z := decide (r = 0), c := r.getLsbD 6 } := by
  rw [arrBinary, rotateRight_eq]
  rfl

/-- Bit 0 as a number. -/
theorem and_one_toNat (v : Byte) : (v &&& 1).toNat = v.toNat % 2 := by
  rw [BitVec.toNat_and]
  exact Nat.and_two_pow_sub_one_eq_mod v.toNat 1

/-- The high nibble as a number. -/
theorem shiftRight_four_toNat (v : Byte) : (v >>> 4).toNat = v.toNat / 16 := by
  rw [BitVec.toNat_ushiftRight, Nat.shiftRight_eq_div_pow]

/-- The high nibble of one byte and the low nibble of another do not meet. -/
theorem highPart_or_lowPart (v w : Byte) :
    highPart v ||| lowPart w = BitVec.ofNat 8 (16 * (v.toNat / 16) + w.toNat % 16) := by
  have := v.isLt
  have low : w.toNat % 16 < 2 ^ 4 := by omega
  apply BitVec.eq_of_toNat_eq
  rw [BitVec.toNat_or, highPart_toNat, lowPart_toNat, BitVec.toNat_ofNat, ← Nat.two_pow_add_eq_or_of_lt low]
  omega

/-- The low digit of ARR, adjusted by 6 without a carry into the high one. -/
theorem highPart_or_lowPart_add_six (r : Byte) :
    highPart r ||| lowPart (r + 6) = BitVec.ofNat 8 (16 * (r.toNat / 16) + (r.toNat + 6) % 16) := by
  rw [highPart_or_lowPart, BitVec.toNat_add]
  exact congrArg (fun n => BitVec.ofNat 8 (16 * (r.toNat / 16) + n)) (Nat.mod_mod_of_dvd _ (by decide))

theorem arrDecimal_eq (t : Byte) (c : Bool) : arrDecimal t c =
    let r : Byte := BitVec.ofNat 8 (t.toNat / 2 + 128 * c.toNat)
    let low : Byte :=
      if 5 < t.toNat % 16 + t.toNat % 2 then BitVec.ofNat 8 (16 * (r.toNat / 16) + (r.toNat + 6) % 16) else r
    let carry := decide (5 < t.toNat / 16 + t.toNat / 16 % 2)
    { r := if carry then low + 0x60 else low
      n := c, v := t.getLsbD 6 != r.getLsbD 6, z := decide (r = 0), c := carry } := by
  simp only [arrDecimal, rotateRight_eq, highPart_or_lowPart_add_six, lowPart_toNat, and_one_toNat,
    shiftRight_four_toNat, BitVec.getLsbD_xor]
  rfl

/-- ARR completes, and D chooses its result and flags. -/
theorem arr_readRuns {s : State} {i : Instr} {src : Source} (h : Ready s) (ho : i.operand = .source src)
    (hm : i.mnemonic = .arr) : ReadRuns i src s fun m s =>
      s.setAlu (if s.p.d then arrDecimal (s.a &&& m) s.p.c else arrBinary (s.a &&& m) s.p.c) :=
  readRuns_of_readOp h (fun _ => CpuOp.alu fun _ _ k => by rw [k.a, k.p]) (fun _ _ => rfl) (exec_eq hm ho (.arr src))

/-- Settles O36: each reads its operand, then updates one register and the flags. N of ALR is 0, as that of LSR, and D
chooses the update of ARR. -/
theorem undocumentedImmediateRuns : Obligations.UndocumentedImmediateRuns := by
  unfold Obligations.UndocumentedImmediateRuns
  intro s i src h ho
  refine ⟨fun hm => ?anc, fun hm => ?alr, fun hm => ?axs, fun hm hd => ?binary, fun hm hd => ?decimal⟩
  case anc =>
    exact readRuns_of_readOp h (fun m => CpuOp.setAWithNZC (· &&& m) fun a => (a &&& m).getLsbD 7) (fun _ _ => rfl)
      ((exec_eq hm ho (.anc src)).trans (opAnc_eq src))
  case alr =>
    have half (m : Byte) := CpuOp.setAWithNZC (fun a => BitVec.ofNat 8 ((a &&& m).toNat / 2)) fun a =>
      decide ((a &&& m).toNat % 2 = 1)
    refine (readRuns_of_readOp h half (fun _ _ => rfl) ((exec_eq hm ho (.alr src)).trans (opAlr_eq src))).congr
      fun m => ?_
    simp only [withNZ_shiftRight_n]
  case axs =>
    have setX (m : Byte) : CpuOp fun s => s.setX ((s.a &&& s.x) - m) :=
      CpuOp.unchanged.setX fun _ _ k => by rw [k.a, k.x]
    exact readRuns_of_readOp h (fun m => (setX m).setP fun _ _ k => by rw [k.a, k.x, k.p]) (fun _ _ => rfl)
      ((exec_eq hm ho (.axs src)).trans (opAxs_eq src))
  case binary =>
    refine (arr_readRuns h ho hm).congr fun m => ?_
    rw [if_neg (Bool.eq_false_iff.mp hd), arrBinary_eq]
    rfl
  case decimal =>
    refine (arr_readRuns h ho hm).congr fun m => ?_
    rw [if_pos hd, arrDecimal_eq]
    rfl

/-! ### XAA (47_undocumented.md R283) -/

/-- XAA makes no bus cycle: its free byte is the one at the draws before it. -/
theorem exec_xaaImm (imm : Byte) (s : State) : exec (.xaaImm imm) s = .next
    (((s.noteOperand imm).setA (xaaResult s.a s.x imm (Config.xaaMagic s.draws))).setP
      (withNZ s.p (xaaResult s.a s.x imm (Config.xaaMagic s.draws)))).nextDraw := rfl

/-- A frame does not see a free value taken. -/
theorem Frame.nextDraw {s t : State} (h : Frame s t) : Frame s t.nextDraw :=
  { h with cpu := { h.cpu with } }

/-- No bit is in X and in the immediate, so none is in the result (R283's first corner case). -/
theorem xaaResult_of_and_eq_zero {x imm : Byte} (h : x &&& imm = 0) (a magic : Byte) :
    xaaResult a x imm magic = 0 := by
  rw [xaaResult, BitVec.and_assoc, h]
  exact BitVec.and_zero

/-- The free byte adds nothing to A = $FF (R283's second corner case). -/
theorem xaaResult_allOnes (x imm magic : Byte) : xaaResult 0xFF x imm magic = x &&& imm := by
  rw [xaaResult, show (0xFF : Byte) = BitVec.allOnes 8 from rfl, BitVec.allOnes_or, BitVec.allOnes_and]

/-- Settles O37: the byte is the free one at the draws, and neither corner case's result depends on it. -/
theorem xaaRuns : Obligations.XaaRuns := by
  unfold Obligations.XaaRuns
  intro s imm h
  refine ⟨⟨Config.xaaMagic s.draws, ?runs⟩, fun t ht => ?corners⟩
  case runs =>
    have setA : CpuOp fun u => (u.setA (xaaResult u.a u.x imm (Config.xaaMagic s.draws))).setP
        (withNZ u.p (xaaResult u.a u.x imm (Config.xaaMagic s.draws))) :=
      (CpuOp.unchanged.setA fun _ _ k => by rw [k.a, k.x]).setP fun _ _ k => by rw [k.a, k.x, k.p]
    have read : Frame s (s.noteOperand imm) := (Ran.refl h).frame.setCur _
    exact ⟨imm, s.noteOperand imm, _, rfl, exec_xaaImm imm s, ⟨rfl, rfl, rfl, rfl, rfl, rfl, rfl, rfl⟩,
      (read.op setA).nextDraw⟩
  case corners =>
    cases (exec_xaaImm imm s).symm.trans ht
    refine ⟨fun hx => ?zero, fun ha => ?allOnes⟩
    case zero =>
      have result := xaaResult_of_and_eq_zero hx s.a (Config.xaaMagic s.draws)
      exact ⟨result, decide_eq_true result⟩
    case allOnes =>
      change xaaResult s.a s.x imm (Config.xaaMagic s.draws) = s.x &&& imm
      rw [ha, xaaResult_allOnes]

end Sys2Proof.Machine
end

section
/-! PROOFS of the family 60_exceptions.md: what runs at a boundary, that nothing but an invalid opcode stops a step, the
state at each fault, and the interrupt entries. -/

namespace Sys2Proof.Machine

/-! ### What starts at a boundary (60_exceptions.md R310) -/

/-- A machine with a fault takes no step (10_state.md R37). -/
theorem step_of_fault {s : State} {k : FaultKind} (h : s.fault = some k) : step s = .refused (.machineFaulted k) := by
  simp only [step, h]

/-- A pending NMI comes first. -/
theorem step_of_nmi {s : State} (hf : s.fault = none) (hn : s.nmiPending = true) :
    step s = andThen (interruptEntry nmiVector { startStep s with nmiPending := false }) stall := by
  simp only [step, hf, atBoundary, startStep_nmiPending, hn, if_true]

/-- Then a due IRQ. -/
theorem step_of_irq {s : State} (hf : s.fault = none) (hn : s.nmiPending = false) (hi : irqDue s = true) :
    step s = andThen (interruptEntry irqVector (startStep s)) stall := by
  simp only [step, hf, atBoundary, startStep_nmiPending, hn, show irqDue (startStep s) = true from hi,
    Bool.false_eq_true, if_false, if_true]

/-! ### What a whole step does (60_exceptions.md R300, R311) -/

/-- What a whole step keeps beside the invariant: the clocks ran together, and the interrupt lines are as before. -/
structure Passed (s t : State) : Prop where
  counted    : Counted s t
  irqLine    : t.irqLine = s.irqLine
  nmiLine    : t.nmiLine = s.nmiLine
  nmiPending : t.nmiPending = s.nmiPending

theorem Passed.trans {s t u : State} (h : Passed s t) (k : Passed t u) : Passed s u where
  counted := h.counted.trans k.counted
  irqLine := k.irqLine.trans h.irqLine
  nmiLine := k.nmiLine.trans h.nmiLine
  nmiPending := k.nmiPending.trans h.nmiPending

theorem Lived.passed {s t : State} (l : Lived s t) : Passed s t :=
  ⟨l.counted, l.irqLine, l.nmiLine, l.nmiPending⟩

/-- An interrupt entry and its drain complete. -/
theorem interruptEntry_stall {s : State} (vec : Word) (h : Ready s) :
    ∃ t, andThen (interruptEntry vec s) stall = .next t ∧ Passed s t := by
  obtain ⟨u, eu, lu⟩ := interruptEntry_lived vec h
  obtain ⟨t, et, lt⟩ := stall_lived lu.ready
  exact ⟨t, by rw [eu, andThen_next, et], (lu.trans lt).passed⟩

/-- An instruction and its drain complete, unless the instruction is an invalid opcode's. -/
theorem runInstr_stall {s : State} (h : Ready s) :
    (∃ t, andThen (runInstr s) stall = .next t ∧ Passed s t) ∨
    ∃ (i : Instr) (s1 : State), i.mnemonic = .invalid ∧ runInstr s = invalidOpcode i.opcode s1 := by
  obtain ⟨i, s1, e1, l1⟩ := fetchInstr_lived h
  by_cases hi : i.mnemonic = .invalid
  · right
    exact ⟨i, s1, hi, by rw [runInstr, e1, andThen_next, exec_invalid hi]; rfl⟩
  · left
    obtain ⟨s2, e2, _, p, -⟩ := exec_runs hi l1.ready
    obtain ⟨t, e3, l3⟩ := stall_lived (s := closeRecord s2) p.ready
    have close : Passed s2 (closeRecord s2) := ⟨⟨0, rfl, rfl, rfl⟩, rfl, rfl, rfl⟩
    refine ⟨t, ?_, ((l1.trans p.lived).passed.trans close).trans l3.passed⟩
    simp only [runInstr, e1, e2, e3, andThen_next]

/-- A step between cycles completes, unless it runs an invalid opcode. -/
theorem step_ready {s : State} (h : Ready s) (hf : s.fault = none) :
    (∃ t, step s = .next t ∧ Passed { startStep s with nmiPending := false } t) ∨
    ∃ (i : Instr) (s1 : State), i.mnemonic = .invalid ∧ step s = invalidOpcode i.opcode s1 := by
  cases hn : s.nmiPending with
  | true =>
    rw [step_of_nmi hf hn]
    exact .inl (interruptEntry_stall (s := { startStep s with nmiPending := false }) nmiVector h)
  | false =>
    have cleared : { startStep s with nmiPending := false } = startStep s := by rw [← hn]; rfl
    rw [cleared]
    cases hi : irqDue s with
    | true =>
      rw [step_of_irq hf hn hi]
      exact .inl (interruptEntry_stall (s := startStep s) irqVector h)
    | false =>
      rw [step_eq_runInstr hf ⟨hn, hi⟩]
      refine (runInstr_stall (s := startStep s) h).imp_right ?_
      rintro ⟨i, s1, hinv, e⟩
      exact ⟨i, s1, hinv, by rw [e]; rfl⟩

/-- What a step that completes keeps. -/
theorem step_passed {s t : State} (h : Inv s) (e : step s = .next t) :
    Passed { startStep s with nmiPending := false } t := by
  obtain ⟨t', e', p⟩ | ⟨i, s1, -, e'⟩ := step_ready h.ready h.noFault
  · cases e.symm.trans e'
    exact p
  · cases e.symm.trans e'

/-- Settles O8: fetch, execution, interrupt entry and drain complete from between two cycles, but for the execution of
an
invalid opcode. -/
theorem onlyInvalidOpcodesFault : Obligations.OnlyInvalidOpcodesFault := by
  unfold Obligations.OnlyInvalidOpcodesFault
  intro s h
  obtain ⟨t, e, -⟩ | ⟨i, s1, hi, e⟩ := step_ready h.ready h.noFault
  · exact .inl ⟨t, e⟩
  · exact .inr ⟨i.opcode, _, e, hi, rfl, step_of_fault rfl⟩

/-- Settles O10: the three kinds of boundary one by one, and what a step keeps of the lines. -/
theorem interruptCheckOrder : Obligations.InterruptCheckOrder := by
  unfold Obligations.InterruptCheckOrder
  intro s
  refine ⟨fun k => step_of_fault, step_of_nmi, fun hf hn hl hi => ?irq, fun hf hn hor => ?instr,
    fun t h e => ?lines⟩
  case irq => exact step_of_irq hf hn (by rw [irqDue, hl, hi]; rfl)
  case instr =>
    refine step_eq_runInstr hf ⟨hn, ?_⟩
    rcases hor with hl | hi
    · rw [irqDue, hl, Bool.false_and]
    · rw [irqDue, hi, Bool.not_true, Bool.and_false]
  case lines =>
    obtain ⟨-, irqLine, nmiLine, nmiPending⟩ := step_passed h e
    exact ⟨irqLine, nmiLine, nmiPending⟩

/-! ### The state at each fault (60_exceptions.md R301, R303) -/

/-- With RDY high a read cycle is one cycle. -/
theorem memRead_rdy {s t : State} {addr : Word} {b : Byte} (h : Ready s) (hrdy : s.tia.rdy = true)
    (e : memRead addr s = .next (b, t)) :
    Ran 1 s t ∧ t.cycleCount = s.cycleCount + 1 ∧ t.signals.length = s.signals.length + 3 := by
  obtain ⟨b', t', e', r⟩ := memRead_ran addr h
  cases e.symm.trans e'
  obtain ⟨s1, es, -, et⟩ := memRead_eq_next e
  cases (stall_rdy hrdy).symm.trans es
  obtain ⟨t', et', k⟩ := tick_ok (s := (afterRead addr (s.setHalted false)).noteCycle) h.2.2
  cases et.symm.trans et'
  obtain ⟨cycles, -, signals⟩ := k.count
  exact ⟨r, cycles, signals⟩

/-- The opcode fetch with RDY high: one cycle, and PC moves past the opcode. -/
theorem fetchOpcode_rdy {s t : State} {op : Byte} (h : Ready s) (hrdy : s.tia.rdy = true)
    (e : fetchOpcode s = .next (op, t)) :
    Frame s.incPc t ∧ t.cycleCount = s.cycleCount + 1 ∧ t.signals.length = s.signals.length + 3 := by
  obtain ⟨⟨b, u⟩, eu, e⟩ := andThen_eq_next.1 e
  cases e
  obtain ⟨⟨b, v⟩, ev, e⟩ := andThen_eq_next.1 eu
  cases e
  obtain ⟨r, cycles, signals⟩ := memRead_rdy (s := startRecord s) h hrdy ev
  exact ⟨((Frame.ofCur r.frame).op incPc_op).setCur _, cycles, signals⟩

/-- An invalid opcode has no operand bytes. -/
theorem entryOf_invalid_bare {op : Byte} (h : (rowOf op).mnemonic = .invalid) :
    ∃ i, (entryOf op).shape = .bare i ∧ i.opcode = op := by
  have widths : ∀ op ∈ invalidOpcodes, (entryOf op).shape.width = 0 := by decide
  have width := widths op ((entryOf_mnemonic_invalid_iff op).1 h)
  have builds := entryOf_builds op
  cases hs : (entryOf op).shape with
  | bare i =>
    rw [hs] at builds
    exact ⟨i, rfl, builds.1⟩
  | byte | word | jump | call =>
    rw [hs] at width
    cases width

/-- A step that fetches an invalid opcode faults after the fetch cycle. -/
theorem step_fetched_invalid {s s1 : State} {op : Byte} (hf : s.fault = none) (hn : NoInterrupt s)
    (e : fetchOpcode (startStep s) = .next (op, s1)) (hop : (rowOf op).mnemonic = .invalid) :
    step s = invalidOpcode op s1 := by
  obtain ⟨i, shape, rfl⟩ := entryOf_invalid_bare hop
  have fetched : fetchInstr (startStep s) = .next (i, s1) := by
    rw [fetchInstr, e, andThen_next, shape, fetchOperands]
  rw [step_eq_runInstr hf hn, runInstr, fetched, andThen_next, exec_invalid hop]
  rfl

/-- A write to a chip whose inbox is full faults before it does anything. -/
theorem memWrite_inboxFull {s : State} {addr : Word} (v : Byte) (h : inboxFull (busAddr addr) s = true) :
    memWrite addr v s = .fault (.unservicedChipWrite (busAddr addr)
      { s with fault := some (.unservicedChipWrite (busAddr addr)) }) := by
  rw [memWrite, busWrite, if_pos h, andThen_fault]

theorem inboxFull_of_chip {s : State} {a13 : Addr13}
    (h : (chipSelect a13 = .tia ∧ s.tia.inbox ≠ none) ∨ (chipSelect a13 = .riot ∧ s.riot.inbox ≠ none)) :
    inboxFull a13 s = true := by
  rcases h with ⟨hsel, hi⟩ | ⟨hsel, hi⟩
  · rw [inboxFull, hsel, Option.isSome_iff_ne_none.2 hi]
    rfl
  · rw [inboxFull, hsel, Option.isSome_iff_ne_none.2 hi]
    exact Bool.or_true _

/-- A full queue in a write cycle is one in its tick. -/
theorem memWrite_delayQueueFull {s t : State} {addr : Word} {v : Byte} {tag : Tag}
    (e : memWrite addr v s = .fault (.delayQueueFull tag t)) :
    runCycle s (afterWrite addr v s).noteCycle = .fault (.delayQueueFull tag t) := by
  rw [memWrite, busWrite] at e
  split at e
  · cases e
  · exact e

/-- A full queue in a read cycle, past its stall, is one in its tick. -/
theorem memRead_delayQueueFull {s s1 t : State} {addr : Word} {tag : Tag} (es : stall s = .next s1)
    (e : memRead addr s = .fault (.delayQueueFull tag t)) :
    runCycle s1 (afterRead addr s1).noteCycle = .fault (.delayQueueFull tag t) := by
  rw [memRead, es, andThen_next] at e
  change andThen (runCycle s1 (afterRead addr s1).noteCycle) _ = _ at e
  cases ec : runCycle s1 (afterRead addr s1).noteCycle with
  | next u => rw [ec] at e; cases e
  | fault f => rw [ec] at e; cases e; rfl
  | refused r => rw [ec] at e; cases e

/-- Settles O13: the five faults, each from the cycle or the fetch that raises it. -/
theorem faultStates : Obligations.FaultStates := by
  unfold Obligations.FaultStates
  refine ⟨fun i s hi => ?exec, fun s s1 op h hn ef hop => ?fetched,
    fun s addr v h => memWrite_inboxFull v (inboxFull_of_chip h),
    fun s t addr v tag e => runCycle_error (memWrite_delayQueueFull e),
    fun s s1 t addr tag es e => runCycle_error (memRead_delayQueueFull es e)⟩
  case exec =>
    have invalid : i.mnemonic = .invalid := (isInvalid_iff i).1 (by simpa [Instr.wellFormed] using hi)
    rw [exec_invalid invalid]
    rfl
  case fetched =>
    obtain ⟨⟨cpu, mem, -⟩, cycles, signals⟩ := fetchOpcode_rdy (s := startStep s) h.ready h.rdy ef
    exact ⟨_, step_fetched_invalid h.noFault hn ef hop, cpu.pc, cpu.a, cpu.x, cpu.y, cpu.sp, cpu.p,
      congrArg (fun l : LastResult => { l with final := false }) cpu.last, rfl, mem, cycles, signals⟩

/-! ### The interrupt entries (60_exceptions.md R315, R316) -/

/-- Settles O34: two dummy reads of PC, then the interrupt sequence with B' = 0. -/
theorem interruptEntryRuns : Obligations.InterruptEntryRuns := by
  unfold Obligations.InterruptEntryRuns
  intro s vec _ h wf
  obtain ⟨s1, e1, r1⟩ := dummyRead_ready s.pc h
  obtain ⟨s2, e2, r2⟩ := dummyRead_ready s.pc r1.ready
  obtain ⟨u, v, w, lo, x, hi, y, p, writeP, e3, e4, storedP, cpuw, run, frame, cycles⟩ :=
    takeInterrupt_ready vec false (r1.trans r2) wf
  refine ⟨s1, s2, u, v, w, lo, x, hi, y, y.setPc (word hi lo), e1, e2, p.writeHi, p.writeLo, writeP, e3, e4,
    p.storedHi, p.storedLo, storedP, cpuw, ?run, (setPc_op _).sameBus rfl, frame.op (setPc_op _), ?cycles⟩
  case run => rw [interruptEntry, e1, andThen_next, r1.frame.cpu.pc, e2, andThen_next, run]
  case cycles =>
    change y.cur.cycles = _
    rw [cycles, (r1.trans r2).cur]

end Sys2Proof.Machine
end

section
/-! PROOFS of the family 64_scheduler.md: what the cycles of the CPU and their ticks do to the chips and the
cartridge. -/

namespace Sys2Proof.Machine

/-! ### Stall cycles (64_scheduler.md R493) -/

/-- A stall that ends within its bound ends alike under a larger one. -/
theorem stallFor_succ {t : State} (fuel : Nat) :
    ∀ {s : State}, stallFor fuel s = .next t → stallFor (fuel + 1) s = .next t := by
  induction fuel with
  | zero =>
    intro s e
    unfold stallFor at e ⊢
    split at e
    · rw [if_pos ‹_›, e]
    · cases e
  | succ fuel ih =>
    intro s e
    rw [stallFor] at e ⊢
    split at e
    · rw [if_pos ‹_›, e]
    · rw [if_neg ‹_›]
      obtain ⟨u, eu, e⟩ := andThen_eq_next.1 e
      rw [eu, andThen_next, ih e]

/-- A stall with RDY low is one stall cycle and the stall after it. -/
theorem stall_cycle {s : State} (h : Ready s) (hrdy : s.tia.rdy = false) :
    ∃ t, tick (s.setHalted true) = .next t ∧ stall s = stall t := by
  obtain ⟨u, eu, -⟩ := stall_ready h
  have e := eu
  rw [stall, stallBound, stallFor, hrdy, if_neg Bool.false_ne_true] at e
  obtain ⟨t, et, e⟩ := andThen_eq_next.1 e
  exact ⟨t, runCycle_eq_next et, eu.trans (stallFor_succ 76 e).symm⟩

/-! ### The tick (64_scheduler.md R490) -/

/-- A tick's three TIA steps with their records, its RIOT step, and its step of the cartridge. -/
theorem tick_stages {s : State} (h : s.tia.tags.Nodup) :
    ∃ t pin p1 p2 p3 t1 t2 g1 g2 g3, tick s = .next t ∧
      tiaStep true (Prod.fst p1) (Prod.snd p1) s.tia = .ok (t1, g1) ∧
      tiaStep false (Prod.fst p2) (Prod.snd p2) t1 = .ok (t2, g2) ∧
      tiaStep true (Prod.fst p3) (Prod.snd p3) t2 = .ok (t.tia, g3) ∧ t.riot = riotStep pin s.riot ∧
      t.cart = s.cart.afterStep ∧ t.signals = g3 :: g2 :: g1 :: s.signals ∧ Ticked s t := by
  obtain ⟨t, e, k⟩ := tick_ok h
  obtain ⟨pin, riot⟩ := tick_riot e
  obtain ⟨p1, p2, p3, t1, t2, g1, g2, g3, e1, e2, e3, ht⟩ := tick_eq_next e
  exact ⟨t, pin, p1, p2, p3, t1, t2, g1, g2, g3, e, e1, e2, e3, riot, by rw [ht]; simp, by rw [ht]; simp, k⟩

/-! ### A host's cartridge (20_memory.md R86, R87, R88) -/

/-- An access that selects a host's cartridge is cart.read or cart.write, then cart.listen. -/
theorem access_host_selected {s : State} {a : Word} {n : Nat} {off : BitVec 12} (w : Byte) (hc : s.cart = .host n)
    (hsel : chipSelect (busAddr a) = .cart off) :
    readValue (busAddr a) s = (Config.cartRead n off).1 ∧
    (afterRead a s).cart =
      .host (Config.cartListen (Config.cartRead n off).2 (busAddr a) (Config.cartRead n off).1) ∧
    (afterWrite a w s).cart = .host (Config.cartListen (Config.cartWrite n off w) (busAddr a) w) := by
  have value : readValue (busAddr a) s = (Config.cartRead n off).1 := by
    simp only [readValue, hsel, hc, Cart.value]
  refine ⟨value, ?_, ?_⟩
  · simp only [afterRead_cart, cartAfterRead, value, hsel, hc, Cart.afterRead, Cart.afterListen]
  · simp only [afterWrite_cart, cartAfterWrite, hsel, hc, Cart.afterWrite, Cart.afterListen]

/-- An access of another chip is heard by cart.listen. -/
theorem access_host_other {s : State} {a : Word} {n : Nat} (w : Byte) (hc : s.cart = .host n)
    (hsel : ∀ off, chipSelect (busAddr a) ≠ .cart off) :
    (afterRead a s).cart = .host (Config.cartListen n (busAddr a) (readValue (busAddr a) s)) ∧
    (afterWrite a w s).cart = .host (Config.cartListen n (busAddr a) w) := by
  rw [afterRead_cart, afterWrite_cart, cartAfterRead, cartAfterWrite, hc]
  cases hs : chipSelect (busAddr a) with
  | cart off => exact absurd hs (hsel off)
  | ram | riot | tia => exact ⟨rfl, rfl⟩

/-- Settles O9: the tick by its stages, each kind of cycle by the tick it ends in, and the clocks counted together. -/
theorem cpuCyclesAndTheirTicks : Obligations.CpuCyclesAndTheirTicks := by
  unfold Obligations.CpuCyclesAndTheirTicks
  refine ⟨fun s h => ?tick, fun s a h => ?read, fun s a v h => ?write, fun s h hrdy => stall_cycle h hrdy,
    fun s a n w hc => ⟨fun off => access_host_selected w hc, access_host_other w hc⟩, fun s t h e => ?counts⟩
  case tick =>
    obtain ⟨t, pin, p1, p2, p3, t1, t2, g1, g2, g3, e, e1, e2, e3, riot, cart, signals, k⟩ := tick_stages h
    obtain ⟨cycles, stepCycles, -⟩ := k.count
    exact ⟨t, pin, p1, p2, p3, t1, t2, g1, g2, g3, e, e1, e2, e3, riot, k.rom, fun n hc => by rw [cart, hc]; rfl,
      signals, cycles, stepCycles, k.cpu, k.mem, k.halted, k.cur⟩
  case read =>
    obtain ⟨s1, t, es, e, -⟩ := memRead_ready a h
    obtain ⟨s1', es', -, et⟩ := memRead_eq_next e
    cases es.symm.trans es'
    exact ⟨s1, t, es, fun hrdy => by cases (stall_rdy hrdy).symm.trans es; rfl, e, et⟩
  case write =>
    obtain ⟨t, e, -⟩ := memWrite_ready a v h
    exact ⟨t, e, memWrite_eq_next e⟩
  case counts =>
    obtain ⟨k, cycles, stepCycles, signals⟩ := (step_passed h e).counted
    change t.cycleCount = s.cycleCount + k at cycles
    change t.stepCycles = 0 + k at stepCycles
    change t.signals.length = 0 + 3 * k at signals
    exact ⟨by omega, by omega⟩

end Sys2Proof.Machine
end

section
/-! PROOFS of the reset state (10_state.md R75): it meets the invariant of step boundaries. -/

namespace Sys2Proof.Machine

/-- Settles O6: the inboxes and the delay queue are empty, prescale is the divisor's, RDY is 1 (log 2). -/
theorem resetStateMeetsTheInvariant : Obligations.ResetStateMeetsTheInvariant where
  ready := ⟨rfl, rfl, List.nodup_nil⟩
  tia := ⟨nofun, rfl, rfl⟩
  riot := ⟨by decide, by decide, nofun⟩
  mem := reset_mem_wf
  rdy := rfl
  halted := rfl
  noFault := rfl

end Sys2Proof.Machine
end

section
/-! PROOFS of the family 61_tia_clock.md, what one colour clock does: the delay queue with what fires from it, the event
that the count of the line schedules, the ripple, and the object counters. -/

namespace Sys2Proof.Machine

/-! ### The stages of a colour clock (61_tia_clock.md R340) -/

/-- A colour clock that completes, by its stages. -/
theorem tiaStep_eq_ok {service b4 b5 : Bool} {t u : Tia} {g : Signal} (e : tiaStep service b4 b5 t = .ok (u, g)) :
    ∃ c w, clockStage (queueStage t) = .ok c ∧ serviceStage service c = .ok w ∧
      u = latchStage b4 b5 (objectStage w) ∧ g = signalOf (objectStage w) := by
  unfold tiaStep clockAndService at e
  cases ec : clockStage (queueStage t) with
  | error q => rw [ec] at e; cases e
  | ok c =>
    simp only [ec] at e
    cases ew : serviceStage service c with
    | error q => rw [ew] at e; cases e
    | ok w =>
      rw [ew] at e
      cases e
      exact ⟨c, w, rfl, ew, rfl, rfl⟩

/-- The event that the HSYNC counter schedules in the colour clock cc (R350): the counter counts at every fourth. -/
def lineEvent (cc : Nat) (latch pending : Bool) : Option Event :=
  match cc with
  | 32 => some .hsyncOff
  | 48 => some .cburstOff
  | 64 => if latch then none else some .hblankOff
  | 72 => if latch then some .hblankOff else none
  | 224 => if pending then none else some .newline
  | _ => none

/-- The queue after an event of the line is scheduled (10_state.md R60). -/
def enqueue (e : Option Event) (q : List Slot) : List Slot :=
  match e with
  | none => q
  | some e => (q.filter fun sl => sl.event.tag ≠ e.tag) ++ [⟨Config.hsyncEventDelay, e⟩]

/-- What the decode of a count does: it turns HSYNC's signal on, or schedules an event, or neither. -/
theorem decodeHsync_eq_ok {t d : Tia} (e : decodeHsync t = .ok d) :
    d = { t with
      sigHsync := t.sigHsync || decide (t.hsync.val = 4)
      dq := enqueue (lineEvent (4 * t.hsync.val) t.hmoveLatch t.rsyncPending) t.dq } := by
  have branch : ∀ ev on, lineEvent (4 * t.hsync.val) t.hmoveLatch t.rsyncPending = ev →
      decide (t.hsync.val = 4) = on → d = { t with sigHsync := t.sigHsync || on, dq := enqueue ev t.dq } →
      d = { t with
        sigHsync := t.sigHsync || decide (t.hsync.val = 4)
        dq := enqueue (lineEvent (4 * t.hsync.val) t.hmoveLatch t.rsyncPending) t.dq } := by
    rintro ev on rfl rfl h
    exact h
  have scheduled : ∀ ev, schedule Config.hsyncEventDelay ev t = .ok d →
      d = { t with sigHsync := t.sigHsync || false, dq := enqueue (some ev) t.dq } :=
    fun ev h => (schedule_kept h).trans (by rw [Bool.or_false]; rfl)
  have same : t = { t with sigHsync := t.sigHsync || false, dq := enqueue none t.dq } := by rw [Bool.or_false]; rfl
  unfold decodeHsync at e
  split at e
  next h => cases e; exact branch none true (by rw [h]; rfl) (by rw [h]; rfl) (by rw [Bool.or_true]; rfl)
  next h => exact branch _ false (by rw [h]; rfl) (by rw [h]; rfl) (scheduled _ e)
  next h => exact branch _ false (by rw [h]; rfl) (by rw [h]; rfl) (scheduled _ e)
  next h =>
    split at e
    next hl => cases e; exact branch none false (by rw [h, hl]; rfl) (by rw [h]; rfl) same
    next hl => exact branch _ false (by rw [h, Bool.eq_false_iff.2 hl]; rfl) (by rw [h]; rfl) (scheduled _ e)
  next h =>
    split at e
    next hl => exact branch _ false (by rw [h, hl]; rfl) (by rw [h]; rfl) (scheduled _ e)
    next hl => cases e; exact branch none false (by rw [h, Bool.eq_false_iff.2 hl]; rfl) (by rw [h]; rfl) same
  next h =>
    split at e
    next hp => cases e; exact branch none false (by rw [h, hp]; rfl) (by rw [h]; rfl) same
    next hp => exact branch _ false (by rw [h, Bool.eq_false_iff.2 hp]; rfl) (by rw [h]; rfl) (scheduled _ e)
  next h4 h8 h12 h16 h18 h56 =>
    cases e
    refine branch none false ?_ (decide_eq_false h4) same
    unfold lineEvent
    split
    next hc => exact absurd (by omega) h8
    next hc => exact absurd (by omega) h12
    next hc => exact absurd (by omega) h16
    next hc => exact absurd (by omega) h18
    next hc => exact absurd (by omega) h56
    next => rfl

/-- The ripple value of a Φ2 rise (R361). -/
def Tia.rippleNow (t : Tia) : Option (Fin 16) := if t.hmArmed then some Config.hmoveFirst else t.hmRipple

/-- A Φ2 rise with no ripple running changes nothing of it. -/
theorem rippleStep_idle {t : Tia} (h : t.rippleNow = none) : rippleStep t = t := by
  unfold Tia.rippleNow at h
  split at h
  · cases h
  next ha => simp only [rippleStep, armRipple, if_neg ha, h]

/-- A Φ2 rise with the ripple at r. -/
theorem rippleStep_running {t : Tia} {r : Fin 16} (h : t.rippleNow = some r) : rippleStep t =
    { t with
      more := .each fun o => t.more.get o && !rippleStops r (t.hm.get o)
      pulse := .each fun o => t.more.get o && !rippleStops r (t.hm.get o)
      hmRipple := if r.val = 0 then none else some (r - 1)
      hmArmed := false } := by
  unfold Tia.rippleNow at h
  split at h
  next ha => cases h; simp only [rippleStep, armRipple, if_pos ha]
  next ha =>
    simp only [rippleStep, armRipple, if_neg ha, h]
    rw [← Bool.eq_false_iff.2 ha]

/-- A ripple step changes the ripple's fields alone. -/
theorem rippleStep_eq (t : Tia) : rippleStep t =
    { t with
      more := (rippleStep t).more, pulse := (rippleStep t).pulse, hmRipple := (rippleStep t).hmRipple
      hmArmed := (rippleStep t).hmArmed } := by
  cases h : t.rippleNow with
  | none => rw [rippleStep_idle h]
  | some r => rw [rippleStep_running h]

theorem releaseRdy_eq (t : Tia) : releaseRdy t = { t with rdy := (releaseRdy t).rdy } := by
  unfold releaseRdy
  split <;> rfl

/-- After a ripple step the release of RDY changes RDY alone. -/
theorem releaseRdy_rippleStep_eq (d : Tia) : releaseRdy (rippleStep d) =
    { d with
      more := (rippleStep d).more, pulse := (rippleStep d).pulse, hmRipple := (rippleStep d).hmRipple
      hmArmed := (rippleStep d).hmArmed, rdy := (releaseRdy (rippleStep d)).rdy } :=
  (releaseRdy_eq _).trans
    (congrArg (fun u : Tia => { u with rdy := (releaseRdy (rippleStep d)).rdy }) (rippleStep_eq d))

/-- The count at a Φ2 rise (R342). -/
theorem advanceHsync_eq (t : Tia) : advanceHsync t =
    { t with hsync := t.hsync + 1, hmoveLatch := t.hmoveLatch && decide ((t.hsync + 1).val ≠ 0) } := by
  unfold advanceHsync
  split
  next h => simp [h]
  next h =>
    have hne : (t.hsync + 1).val ≠ 0 := by
      have lt := t.hsync.isLt
      have ne : t.hsync.val ≠ 56 := fun k => h (Fin.ext k)
      rw [Fin.val_add, show (1 : Fin 57).val = 1 from rfl]
      omega
    rw [decide_eq_true hne, Bool.and_true]

/-- Stage 2 between two Φ2 rises, and at one. -/
theorem clockStage_eq_ok {t c : Tia} (e : clockStage t = .ok c) :
    (t.pclk ≠ 1 ∧ c = releaseRdy (advancePclk t)) ∨
    (t.pclk = 1 ∧ ∃ d, decodeHsync (advanceHsync (advancePclk t)) = .ok d ∧ c = releaseRdy (rippleStep d)) := by
  have rise : (advancePclk t).pclk = 2 ↔ t.pclk = 1 := by
    simp only [advancePclk]
    omega
  simp only [clockStage, phi2Rise] at e
  split at e
  next h =>
    cases ed : decodeHsync (advanceHsync (advancePclk t)) with
    | error q => simp only [ed] at e; cases e
    | ok d => simp only [ed] at e; cases e; exact .inr ⟨rise.1 h, d, rfl, rfl⟩
  next h => cases e; exact .inl ⟨mt rise.2 h, rfl⟩

/-- The fields of the HMOVE ripple and nothing else (61_tia_clock.md R361). -/
def Tia.ripple (t : Tia) : Tia :=
  { Tia.reset with hm := t.hm, more := t.more, pulse := t.pulse, hmRipple := t.hmRipple, hmArmed := t.hmArmed }

/-- What stage 2 does, by the colour clock that it moves on to. -/
structure ClockStage (t c : Tia) : Prop where
  frame : c = { t with
    pclk := c.pclk, hsync := c.hsync, hmoveLatch := c.hmoveLatch, sigHsync := c.sigHsync, rdy := c.rdy, dq := c.dq
    more := c.more, pulse := c.pulse, hmRipple := c.hmRipple, hmArmed := c.hmArmed }
  cc : c.cc = (t.cc + 1) % 228
  hmoveLatch : c.hmoveLatch = (t.hmoveLatch && decide (c.cc ≠ 0))
  sigHsync : c.sigHsync = (t.sigHsync || decide (c.cc = 16))
  dq : c.dq = enqueue (lineEvent c.cc c.hmoveLatch t.rsyncPending) t.dq
  ripple : c.ripple = if c.cc % 4 = 0 then (rippleStep { t with pulse := .all false }).ripple
    else ({ t with pulse := .all false } : Tia).ripple

/-- What a ripple step does to the ripple depends on the ripple alone. -/
theorem rippleStep_ripple {t u : Tia} (h : u.ripple = t.ripple) : (rippleStep u).ripple = (rippleStep t).ripple := by
  have same := h
  simp only [Tia.ripple, Tia.mk.injEq, true_and, and_true] at h
  obtain ⟨hm, more, -, ripple, armed⟩ := h
  have now : u.rippleNow = t.rippleNow := by rw [Tia.rippleNow, armed, ripple]; rfl
  cases ht : t.rippleNow with
  | none => rw [rippleStep_idle ht, rippleStep_idle (now.trans ht), same]
  | some r => rw [rippleStep_running ht, rippleStep_running (now.trans ht), hm, more]; simp only [Tia.ripple]

/-- No event of the line between two Φ2 rises. -/
theorem lineEvent_between {cc : Nat} (h : cc % 4 ≠ 0) (latch pending : Bool) : lineEvent cc latch pending = none := by
  unfold lineEvent
  split <;> simp_all

/-- What stage 2 does. -/
theorem clockStage_spec {t c : Tia} (e : clockStage t = .ok c) : ClockStage t c := by
  have hp := t.pclk.isLt
  have hh := t.hsync.isLt
  obtain ⟨hne, rfl⟩ | ⟨h1, d, ed, rfl⟩ := clockStage_eq_ok e
  · have ne : t.pclk.val ≠ 1 := fun k => hne (Fin.ext k)
    rw [releaseRdy_eq]
    have cc : (advancePclk t).cc = t.cc + 1 ∧ (t.cc + 1) % 4 ≠ 0 := by
      have pclk : (advancePclk t).pclk.val = (t.pclk.val + 1) % 4 := by simp only [advancePclk, Fin.val_add]; rfl
      unfold Tia.cc
      rw [pclk, show (advancePclk t).hsync = t.hsync from rfl]
      omega
    have lt := cc_lt (advancePclk t)
    have hcc : ({ advancePclk t with rdy := (releaseRdy (advancePclk t)).rdy } : Tia).cc = t.cc + 1 := cc.1
    refine ⟨rfl, ?_, ?_, ?_, ?_, ?_⟩ <;> rw [hcc]
    · omega
    · rw [decide_eq_true (Nat.succ_ne_zero _), Bool.and_true]; rfl
    · rw [decide_eq_false (fun k => cc.2 (by rw [k])), Bool.or_false]; rfl
    · rw [lineEvent_between cc.2]; rfl
    · rw [if_neg cc.2]; rfl
  · have hsync : (t.hsync + 1).val = (t.hsync.val + 1) % 57 := by simp only [Fin.val_add]; rfl
    have hd := decodeHsync_eq_ok ed
    rw [advanceHsync_eq] at hd
    have eq := releaseRdy_rippleStep_eq d
    have same : d.ripple = ({ t with pulse := .all false } : Tia).ripple := by rw [hd]; rfl
    have ripple : (releaseRdy (rippleStep d)).ripple = (rippleStep { t with pulse := .all false }).ripple :=
      (congrArg Tia.ripple (releaseRdy_eq _)).trans (rippleStep_ripple same)
    generalize releaseRdy (rippleStep d) = c at eq ripple ⊢
    have pclk : c.pclk = t.pclk + 1 := (congrArg Tia.pclk eq).trans (congrArg Tia.pclk hd)
    have count : c.hsync = t.hsync + 1 := (congrArg Tia.hsync eq).trans (congrArg Tia.hsync hd)
    have hcc : c.cc = 4 * (t.hsync + 1).val := by unfold Tia.cc; rw [pclk, count, h1]; rfl
    subst hd
    refine ⟨by rw [eq]; rfl, ?clock, ?clears, ?signal, ?queue, ?ripple⟩ <;> rw [hcc]
    case clock => unfold Tia.cc; rw [hsync, h1]; omega
    case clears =>
      refine (congrArg Tia.hmoveLatch eq).trans (congrArg (t.hmoveLatch && ·) (decide_eq_decide.2 ?_))
      change (t.hsync + 1).val ≠ 0 ↔ _
      omega
    case signal =>
      refine (congrArg Tia.sigHsync eq).trans (congrArg (t.sigHsync || ·) (decide_eq_decide.2 ?_))
      change (t.hsync + 1).val = 4 ↔ _
      omega
    case queue => rw [eq]; rfl
    case ripple => rw [if_pos (Nat.mul_mod_right 4 _), ripple]

/-! ### The delay queue (10_state.md R60, R61) -/

/-- An event that fires in the colour clock after t. -/
def Tia.Fires (t : Tia) (e : Event) : Prop := ∃ sl ∈ t.dq, sl.event = e ∧ sl.remaining ≤ 1

/-- The slots that fire in the colour clock after t, oldest first. -/
def firing (t : Tia) : List Slot := (countedDown t).filter (·.remaining = 0)

theorem fires_iff (t : Tia) (e : Event) : t.Fires e ↔ ∃ sl ∈ firing t, sl.event = e := by
  simp only [firing, countedDown, List.mem_filter, List.mem_map, decide_eq_true_eq]
  constructor
  · rintro ⟨sl, hsl, he, hr⟩
    exact ⟨sl.countDown, ⟨⟨sl, hsl, rfl⟩, by simp only [Slot.countDown]; omega⟩, he⟩
  · rintro ⟨_, ⟨⟨sl, hsl, rfl⟩, hr⟩, he⟩
    exact ⟨sl, hsl, he, by simp only [Slot.countDown] at hr; omega⟩

section fold
variable {α : Type} (f : Tia → α)

/-- What no event of a list writes, the list leaves. -/
theorem fold_keeps (l : List Slot) (h : ∀ sl ∈ l, ∀ u, f (sl.event.apply u) = f u) (t : Tia) :
    f (l.foldl (fun t sl => sl.event.apply t) t) = f t := by
  induction l generalizing t with
  | nil => rfl
  | cons sl l ih =>
    rw [List.foldl_cons, ih (fun x hx => h x (List.mem_cons_of_mem _ hx)), h sl List.mem_cons_self]

/-- What one event of a list writes and no other, the list leaves as it writes it. -/
theorem fold_writes {a : α} {e : Event} (l : List Slot) (hl : ∃ sl ∈ l, sl.event = e)
    (hw : ∀ u, f (e.apply u) = a)
    (h : ∀ sl ∈ l, sl.event ≠ e → ∀ u, f (sl.event.apply u) = f u) (t : Tia) :
    f (l.foldl (fun t sl => sl.event.apply t) t) = a := by
  induction l generalizing t with
  | nil => obtain ⟨_, hsl, -⟩ := hl; cases hsl
  | cons sl l ih =>
    rw [List.foldl_cons]
    by_cases later : ∃ sl ∈ l, sl.event = e
    · exact ih later (fun x hx => h x (List.mem_cons_of_mem _ hx)) _
    · have first : sl.event = e := by
        obtain ⟨x, hx, he⟩ := hl
        rcases List.mem_cons.1 hx with rfl | hx
        · exact he
        · exact absurd ⟨x, hx, he⟩ later
      rw [fold_keeps f l fun x hx => h x (List.mem_cons_of_mem _ hx) fun he => later ⟨x, hx, he⟩, first, hw]

/-- What no event that fires writes, the queue stage leaves. -/
theorem queueStage_keeps {t : Tia} (hf : ∀ u q, f { u with dq := q, newline := false } = f u)
    (h : ∀ e, t.Fires e → ∀ u, f (e.apply u) = f u) : f (queueStage t) = f t :=
  (fold_keeps f (firing t) (fun sl hsl => h _ ((fires_iff t _).2 ⟨sl, hsl, rfl⟩)) _).trans (hf t _)

/-- What one event that fires writes and no other, the queue stage leaves as it writes it. -/
theorem queueStage_writes {t : Tia} {a : α} {e : Event} (he : t.Fires e) (hw : ∀ u, f (e.apply u) = a)
    (h : ∀ e', t.Fires e' → e' ≠ e → ∀ u, f (e'.apply u) = f u) : f (queueStage t) = a :=
  fold_writes f (firing t) ((fires_iff t e).1 he) hw (fun sl hsl => h _ ((fires_iff t _).2 ⟨sl, hsl, rfl⟩)) _

end fold

section fields
variable {t : Tia}

theorem queueStage_newline (t : Tia) : (queueStage t).newline = true ↔ t.Fires .newline := by
  by_cases h : t.Fires .newline
  · refine iff_of_true (queueStage_writes Tia.newline h (fun _ => rfl) fun e _ hne _ => ?_) h
    cases e with
    | newline => exact absurd rfl hne
    | _ => rfl
  · refine iff_of_false (Bool.eq_false_iff.1 ?_) h
    refine fold_keeps Tia.newline (firing t) (fun sl hsl u => ?_) _
    cases he : sl.event with
    | newline => exact absurd ((fires_iff t _).2 ⟨sl, hsl, he⟩) h
    | _ => rfl

theorem queueStage_rsyncPending (t : Tia) (h : ¬ t.Fires .newline) : (queueStage t).rsyncPending = t.rsyncPending :=
  queueStage_keeps Tia.rsyncPending (fun _ _ => rfl) fun e he _ => by
    cases e with
    | newline => exact absurd he h
    | _ => rfl

theorem queueStage_rsyncPending_clears (h : t.Fires .newline) : (queueStage t).rsyncPending = false :=
  queueStage_writes Tia.rsyncPending h (fun _ => rfl) fun e _ hne _ => by
    cases e with
    | newline => exact absurd rfl hne
    | _ => rfl

theorem queueStage_hblank (hn : ¬ t.Fires .newline) (ho : ¬ t.Fires .hblankOff) : (queueStage t).hblank = t.hblank :=
  queueStage_keeps Tia.hblank (fun _ _ => rfl) fun e he _ => by
    cases e with
    | newline => exact absurd he hn
    | hblankOff => exact absurd he ho
    | _ => rfl

theorem queueStage_hblank_off (hn : ¬ t.Fires .newline) (ho : t.Fires .hblankOff) : (queueStage t).hblank = false :=
  queueStage_writes Tia.hblank ho (fun _ => rfl) fun e he hne _ => by
    cases e with
    | newline => exact absurd he hn
    | hblankOff => exact absurd rfl hne
    | _ => rfl

/-- A NEWLINE that is the youngest of the queue has the last word on HBLANK. -/
theorem queueStage_hblank_newline {q : List Slot} {r : Nat} (hq : t.dq = q ++ [⟨r, .newline⟩]) (hr : r ≤ 1) :
    (queueStage t).hblank = true := by
  have last : firing t = (q.map Slot.countDown).filter (·.remaining = 0) ++ [⟨r - 1, .newline⟩] := by
    have zero : r - 1 = 0 := by omega
    simp [firing, countedDown, hq, Slot.countDown, zero]
  change ((firing t).foldl (fun (u : Tia) (sl : Slot) => sl.event.apply u) _).hblank = true
  rw [last, List.foldl_append]
  rfl

theorem queueStage_sigHsync (h : ¬ t.Fires .hsyncOff) : (queueStage t).sigHsync = t.sigHsync :=
  queueStage_keeps Tia.sigHsync (fun _ _ => rfl) fun e he _ => by
    cases e with
    | hsyncOff => exact absurd he h
    | _ => rfl

theorem queueStage_sigHsync_off (h : t.Fires .hsyncOff) : (queueStage t).sigHsync = false :=
  queueStage_writes Tia.sigHsync h (fun _ => rfl) fun e _ hne _ => by
    cases e with
    | hsyncOff => exact absurd rfl hne
    | _ => rfl

theorem queueStage_sigCburst (hs : ¬ t.Fires .hsyncOff) (hc : ¬ t.Fires .cburstOff) :
    (queueStage t).sigCburst = t.sigCburst :=
  queueStage_keeps Tia.sigCburst (fun _ _ => rfl) fun e he _ => by
    cases e with
    | hsyncOff => exact absurd he hs
    | cburstOff => exact absurd he hc
    | _ => rfl

theorem queueStage_sigCburst_on (hs : t.Fires .hsyncOff) (hc : ¬ t.Fires .cburstOff) :
    (queueStage t).sigCburst = true :=
  queueStage_writes Tia.sigCburst hs (fun _ => rfl) fun e he hne _ => by
    cases e with
    | hsyncOff => exact absurd rfl hne
    | cburstOff => exact absurd he hc
    | _ => rfl

theorem queueStage_sigCburst_off (hs : ¬ t.Fires .hsyncOff) (hc : t.Fires .cburstOff) :
    (queueStage t).sigCburst = false :=
  queueStage_writes Tia.sigCburst hc (fun _ => rfl) fun e he hne _ => by
    cases e with
    | hsyncOff => exact absurd he hs
    | cburstOff => exact absurd rfl hne
    | _ => rfl

end fields

/-- The slots that go on waiting, one clock less. -/
theorem mem_queueStage_dq {t : Tia} {r : Nat} {e : Event} :
    ⟨r, e⟩ ∈ (queueStage t).dq ↔ 1 ≤ r ∧ ⟨r + 1, e⟩ ∈ t.dq := by
  simp only [queueStage_dq, countedDown, List.mem_filter, List.mem_map, decide_eq_true_eq]
  constructor
  · rintro ⟨⟨⟨n, e'⟩, hsl, heq⟩, hr⟩
    simp only [Slot.countDown, Slot.mk.injEq] at heq
    obtain ⟨hn, rfl⟩ := heq
    have hr1 : r + 1 = n := by omega
    exact ⟨by omega, hr1 ▸ hsl⟩
  · rintro ⟨hr, hsl⟩
    exact ⟨⟨⟨r + 1, e⟩, hsl, rfl⟩, by omega⟩

/-! ### One colour clock without a service -/

/-- From t to v one colour clock without a service. -/
structure Clock (t v : Tia) : Prop where
  tags      : v.tags.Nodup
  inbox     : v.inbox = t.inbox
  registers : v.registers = t.registers
  rdy       : v.rdy = (t.rdy || decide (v.cc = 227))
  stages    : ∃ pins c, ClockStage (queueStage t) c ∧ v = restOfClock pins c

/-- A colour clock without a service completes while the tags of the queue are distinct. -/
theorem tiaStep_clock {t : Tia} (b4 b5 : Bool) (h : t.tags.Nodup) :
    ∃ v g, tiaStep false b4 b5 t = .ok (v, g) ∧ Clock t v := by
  obtain ⟨v, g, e, hn, hin, hr, -, hrdy, -⟩ := tiaStep_idle false b4 b5 h nofun
  obtain ⟨c, w, ec, ew, rfl, -⟩ := tiaStep_eq_ok e
  cases ew
  exact ⟨_, g, e, hn, hin, hr, hrdy, (b4, b5), c, clockStage_spec ec, rfl⟩

/-- What holds at first and is kept by every colour clock of a run holds at its end. -/
theorem tiaRun_induct {pins : List (Bool × Bool)} : ∀ {I : Nat → Tia → Prop} {t : Tia},
    t.tags.Nodup → I 0 t →
    (∀ k u v, k < pins.length → I k u → Clock u v → I (k + 1) v) →
    ∃ u, tiaRun pins t = .ok u ∧ I pins.length u := by
  induction pins with
  | nil => exact fun _ h0 _ => ⟨_, rfl, h0⟩
  | cons p pins ih =>
    intro I t hn h0 hs
    obtain ⟨v, g, e, c⟩ := tiaStep_clock p.1 p.2 hn
    obtain ⟨u, eu, hu⟩ := ih (I := fun k => I (k + 1)) c.tags (hs 0 t v (Nat.zero_lt_succ _) h0 c)
      fun k u w hk => hs (k + 1) u w (Nat.succ_lt_succ hk)
    exact ⟨u, by rw [tiaRun, e]; exact eu, hu⟩

section clock
variable {t v : Tia} (h : Clock t v)
include h

theorem Clock.cc : v.cc = (t.cc + 1) % 228 := by
  obtain ⟨pins, c, s, rfl⟩ := h.stages
  have q := queueStage_sameClock t
  have hq : (queueStage t).cc = t.cc := by rw [Tia.cc, q.hsync, q.pclk]; rfl
  exact hq ▸ s.cc

theorem Clock.hmoveLatch : v.hmoveLatch = (t.hmoveLatch && decide (v.cc ≠ 0)) := by
  obtain ⟨pins, c, s, rfl⟩ := h.stages
  have q : (queueStage t).hmoveLatch = t.hmoveLatch :=
    queueStage_keeps Tia.hmoveLatch (fun _ _ => rfl) fun e _ _ => by cases e <;> rfl
  exact q ▸ s.hmoveLatch

theorem Clock.sigHsync : v.sigHsync = ((queueStage t).sigHsync || decide (v.cc = 16)) := by
  obtain ⟨pins, c, s, rfl⟩ := h.stages
  exact s.sigHsync

theorem Clock.sigCburst : v.sigCburst = (queueStage t).sigCburst := by
  obtain ⟨pins, c, s, rfl⟩ := h.stages
  exact (congrArg Tia.sigCburst s.frame :)

theorem Clock.hblank : v.hblank = (queueStage t).hblank := by
  obtain ⟨pins, c, s, rfl⟩ := h.stages
  exact (congrArg Tia.hblank s.frame :)

theorem Clock.rsyncPending : v.rsyncPending = (queueStage t).rsyncPending := by
  obtain ⟨pins, c, s, rfl⟩ := h.stages
  exact (congrArg Tia.rsyncPending s.frame :)

theorem Clock.newline : v.newline = (queueStage t).newline := by
  obtain ⟨pins, c, s, rfl⟩ := h.stages
  exact (congrArg Tia.newline s.frame :)

theorem Clock.dq : v.dq = enqueue (lineEvent v.cc v.hmoveLatch v.rsyncPending) (queueStage t).dq := by
  rw [h.rsyncPending]
  obtain ⟨pins, c, s, rfl⟩ := h.stages
  exact s.dq

end clock

/-! ### The events of the line (61_tia_clock.md R350) -/

section line
variable {cc : Nat} {latch pending : Bool}

theorem lineEvent_hsyncOff : lineEvent cc latch pending = some .hsyncOff ↔ cc = 32 := by
  unfold lineEvent
  split <;> simp_all

theorem lineEvent_cburstOff : lineEvent cc latch pending = some .cburstOff ↔ cc = 48 := by
  unfold lineEvent
  split <;> simp_all

theorem lineEvent_hblankOff : lineEvent cc latch pending = some .hblankOff ↔ cc = if latch then 72 else 64 := by
  unfold lineEvent
  split <;> cases latch <;> simp_all

theorem lineEvent_newline : lineEvent cc latch pending = some .newline ↔ cc = 224 ∧ pending = false := by
  unfold lineEvent
  split <;> simp_all

theorem lineEvent_cases {e : Event} (h : lineEvent cc latch pending = some e) :
    e = .hsyncOff ∨ e = .cburstOff ∨ e = .hblankOff ∨ e = .newline := by
  unfold lineEvent at h
  split at h <;> simp_all

/-- No other event has the tag of an event of the line. -/
theorem lineEvent_tag {e e' : Event} (h : lineEvent cc latch pending = some e) (ht : e'.tag = e.tag) : e' = e := by
  rcases lineEvent_cases h with rfl | rfl | rfl | rfl <;> cases e' <;> simp_all [Event.tag]

end line

theorem mem_enqueue {ev : Option Event} {q : List Slot} {r : Nat} {e : Event} : ⟨r, e⟩ ∈ enqueue ev q ↔
    (ev = some e ∧ r = 4) ∨ (⟨r, e⟩ ∈ q ∧ ∀ e', ev = some e' → e.tag ≠ e'.tag) := by
  cases ev with
  | none => simp [enqueue]
  | some e' =>
    simp only [enqueue, List.mem_append, List.mem_filter, List.mem_singleton, decide_eq_true_eq, Slot.mk.injEq,
      Option.some.injEq, forall_eq', Config.hsyncEventDelay]
    grind

/-- The queue at a clock c holds the event e exactly in the four clocks from S on, as its youngest slot. -/
structure OnTime (e : Event) (S c : Nat) (t : Tia) : Prop where
  slots    : ∀ r, ⟨r, e⟩ ∈ t.dq ↔ S ≤ c ∧ c < S + 4 ∧ c + r = S + 4
  youngest : S ≤ c → c < S + 4 → ∃ q, t.dq = q ++ [⟨S + 4 - c, e⟩]

section onTime
variable {e : Event} {S c : Nat} {t v : Tia}

theorem not_mem_of_tag (h : e.tag ∉ t.tags) (r : Nat) : ⟨r, e⟩ ∉ t.dq :=
  fun k => h (List.mem_map.2 ⟨_, k, rfl⟩)

theorem onTime_before (h : e.tag ∉ t.tags) (hc : c < S) : OnTime e S c t where
  slots r := iff_of_false (not_mem_of_tag h r) (by omega)
  youngest := by omega

/-- The event fires in the fourth clock after S alone. -/
theorem OnTime.fires (h : OnTime e S c t) : t.Fires e ↔ c + 1 = S + 4 := by
  constructor
  · rintro ⟨⟨r, e'⟩, hsl, he, hr⟩
    cases he
    obtain ⟨-, hlt, hr'⟩ := (h.slots r).1 hsl
    change r ≤ 1 at hr
    omega
  · intro hc
    exact ⟨⟨1, e⟩, (h.slots 1).2 (by omega), rfl, le_rfl⟩

/-- A clock keeps the queue on time, if the line schedules the event at S alone. -/
theorem OnTime.clock (h : OnTime e S c t) (hv : Clock t v) (hcc : v.cc = (c + 1) % 228) (hS : S % 4 = 0)
    (hs : lineEvent v.cc v.hmoveLatch v.rsyncPending = some e ↔ c + 1 = S) : OnTime e S (c + 1) v where
  slots r := by
    rw [hv.dq, mem_enqueue, mem_queueStage_dq, h.slots, hs]
    constructor
    · rintro (⟨hc, rfl⟩ | ⟨⟨hr, hlo, hhi, heq⟩, -⟩) <;> omega
    · rintro ⟨hlo, hhi, heq⟩
      by_cases hc : c + 1 = S
      · exact .inl ⟨hc, by omega⟩
      · exact .inr ⟨by omega, fun e' he ht => hc (hs.1 (lineEvent_tag he ht ▸ he))⟩
  youngest hlo hhi := by
    rw [hv.dq]
    by_cases hc : c + 1 = S
    · have four : S + 4 - (c + 1) = 4 := by omega
      rw [hs.2 hc, four]
      exact ⟨_, rfl⟩
    · obtain ⟨q, hq⟩ := h.youngest (by omega) (by omega)
      obtain ⟨r, hr⟩ : ∃ r, S + 4 - c = r + 2 := ⟨S + 2 - c, by omega⟩
      have waits : S + 4 - (c + 1) = r + 1 := by omega
      rw [lineEvent_between (by omega), waits]
      refine ⟨(q.map Slot.countDown).filter (·.remaining ≠ 0), ?_⟩
      simp [enqueue, countedDown, hq, hr, Slot.countDown]

end onTime

end Sys2Proof.Machine
end

section
/-! PROOFS of the family 61_tia_clock.md, the obligations. -/

namespace Sys2Proof.Machine

/-! ### A scanline -/

/-- What k colour clocks without a service do to the clock, RDY and the registers. -/
structure Clocked (t : Tia) (k : Nat) (u : Tia) : Prop where
  cc        : u.cc = (t.cc + k) % 228
  inbox     : u.inbox = t.inbox
  registers : u.registers = t.registers
  rdy       : u.rdy = (t.rdy || decide (228 ≤ t.cc + k + 1 ∧ (t.cc < 227 ∨ 228 ≤ k)))

theorem Clocked.clock {t u v : Tia} {k : Nat} (h : Clocked t k u) (c : Clock u v) : Clocked t (k + 1) v where
  cc := by rw [c.cc, h.cc]; omega
  inbox := c.inbox.trans h.inbox
  registers := c.registers.trans h.registers
  rdy := by
    have lt := cc_lt t
    rw [c.rdy, h.rdy, Bool.or_assoc, ← Bool.decide_or, c.cc, h.cc]
    congr 1
    rw [decide_eq_decide]
    omega

theorem tiaRun_clocked {t : Tia} (pins : List (Bool × Bool)) (h : t.tags.Nodup) :
    ∃ u, tiaRun pins t = .ok u ∧ Clocked t pins.length u :=
  tiaRun_induct h
    { cc := (Nat.mod_eq_of_lt (cc_lt t)).symm
      inbox := rfl
      registers := rfl
      rdy := by
        have lt := cc_lt t
        rw [decide_eq_false (by omega), Bool.or_false] }
    fun _ _ _ _ i c => i.clock c

/-- Settles O44, by induction on the clocks. -/
theorem scanlineIs228Clocks : Obligations.ScanlineIs228Clocks := by
  unfold Obligations.ScanlineIs228Clocks
  intro t pins h
  obtain ⟨u, e, ⟨cc, inbox, registers, rdy⟩⟩ := tiaRun_clocked pins h
  exact ⟨u, e, cc, inbox, registers, rdy⟩

/-! ### The events of a line -/

/-- From cc 0 at count 0 to count 451, with rsync_pending as p: the NEWLINE of this line is the only one, and with
rsync_pending there is none. -/
structure LineEnd (p : Bool) (c : Nat) (t : Tia) : Prop where
  cc      : t.cc = c % 228
  pending : t.rsyncPending = p
  newline : OnTime .newline (if p then 452 else 224) c t

section lineEnd
variable {p : Bool} {c : Nat} {t v : Tia}

/-- The NEWLINE of the line fires at count 228. -/
theorem LineEnd.fires (h : LineEnd p c t) (hc : c < 451) : t.Fires .newline ↔ p = false ∧ c = 227 := by
  rw [h.newline.fires]
  cases p <;> simp
  omega

theorem LineEnd.clock (h : LineEnd p c t) (hv : Clock t v) (hc : c < 451) : LineEnd p (c + 1) v := by
  have cc : v.cc = (c + 1) % 228 := by rw [hv.cc, h.cc]; omega
  have pending : v.rsyncPending = p := by
    rw [hv.rsyncPending]
    by_cases hf : t.Fires .newline
    · rw [queueStage_rsyncPending_clears hf, ((h.fires hc).1 hf).1]
    · rw [queueStage_rsyncPending t hf, h.pending]
  refine ⟨cc, pending, h.newline.clock hv cc ?_ ?_⟩
  · cases p <;> rfl
  · rw [lineEvent_newline, cc, pending]
    cases p <;> simp <;> omega

end lineEnd

/-- HBLANK from cc 63 on: c is the clock of the line, latch the HMOVE latch. -/
structure HblankEnd (p latch : Bool) (c : Nat) (t : Tia) : Prop where
  line       : LineEnd p c t
  hmoveLatch : t.hmoveLatch = latch
  off        : OnTime .hblankOff (if latch then 72 else 64) c t
  hblank     : t.hblank = decide (c < if latch then 76 else 68)

theorem HblankEnd.clock {p latch : Bool} {c : Nat} {t v : Tia} (h : HblankEnd p latch c t) (hv : Clock t v)
    (hc : c < 227) : HblankEnd p latch (c + 1) v := by
  have cc : v.cc = c + 1 := by rw [hv.cc, h.line.cc]; omega
  have cc' : v.cc = (c + 1) % 228 := by omega
  have hl : v.hmoveLatch = latch := by
    rw [hv.hmoveLatch, h.hmoveLatch, cc]
    simp
  refine ⟨h.line.clock hv (by omega), hl, h.off.clock hv cc' ?_ ?_, ?_⟩
  · cases latch <;> rfl
  · rw [lineEvent_hblankOff, hl, cc]
  · have noLine : ¬ t.Fires .newline := fun k => by have := (h.line.fires (by omega)).1 k; omega
    have fires := h.off.fires
    rw [hv.hblank]
    by_cases hf : t.Fires .hblankOff
    · rw [queueStage_hblank_off noLine hf, eq_comm, decide_eq_false_iff_not]
      have := fires.1 hf
      cases latch <;> simp_all
    · rw [queueStage_hblank noLine hf, h.hblank, decide_eq_decide]
      rw [fires] at hf
      cases latch <;> simp_all <;> omega

/-- HSYNC's signal and the colour burst from cc 15 on: c is the clock of the line, burst the colour burst before. -/
structure SyncSignals (burst : Bool) (c : Nat) (t : Tia) : Prop where
  cc        : t.cc = c
  hsyncOff  : OnTime .hsyncOff 32 c t
  cburstOff : OnTime .cburstOff 48 c t
  sigHsync  : 16 ≤ c → t.sigHsync = decide (c < 36)
  sigCburst : t.sigCburst = if c < 36 then burst else decide (c < 52)

theorem SyncSignals.clock {burst : Bool} {c : Nat} {t v : Tia} (h : SyncSignals burst c t) (hv : Clock t v)
    (hc : c < 227) (hlo : 15 ≤ c) : SyncSignals burst (c + 1) v := by
  have cc : v.cc = c + 1 := by rw [hv.cc, h.cc]; omega
  have cc' : v.cc = (c + 1) % 228 := by omega
  have off := h.hsyncOff.fires
  have coff := h.cburstOff.fires
  refine ⟨cc, h.hsyncOff.clock hv cc' rfl ?_, h.cburstOff.clock hv cc' rfl ?_, fun _ => ?_, ?_⟩
  · rw [lineEvent_hsyncOff, cc]
  · rw [lineEvent_cburstOff, cc]
  · rw [hv.sigHsync, cc]
    by_cases hf : t.Fires .hsyncOff
    · rw [queueStage_sigHsync_off hf, Bool.false_or, decide_eq_decide]
      have := off.1 hf
      omega
    · rw [queueStage_sigHsync hf]
      rw [off] at hf
      by_cases h15 : c = 15
      · subst h15
        exact Bool.or_true _
      · rw [h.sigHsync (by omega), ← Bool.decide_or, decide_eq_decide]
        omega
  · rw [hv.sigCburst]
    by_cases hf : t.Fires .hsyncOff
    · have at35 := off.1 hf
      have nf : ¬ t.Fires .cburstOff := fun k => by have := coff.1 k; omega
      obtain rfl : c = 35 := by omega
      exact queueStage_sigCburst_on hf nf
    · by_cases hcf : t.Fires .cburstOff
      · obtain rfl : c = 51 := by have := coff.1 hcf; omega
        exact queueStage_sigCburst_off hf hcf
      · rw [queueStage_sigCburst hf hcf, h.sigCburst]
        rw [off] at hf
        rw [coff] at hcf
        by_cases h36 : c + 1 < 36
        · rw [if_pos h36, if_pos (by omega)]
        · rw [if_neg h36, if_neg (by omega), decide_eq_decide]
          omega

/-- What a NEWLINE leaves behind, from cc 223 to cc 223 of the next line. -/
structure NewLine (p : Bool) (c : Nat) (t : Tia) : Prop where
  line    : LineEnd p c t
  newline : 224 ≤ c → t.newline = (!p && decide (c = 228))
  latch   : c = 228 → t.hmoveLatch = false
  hblank  : p = false → c = 228 → t.hblank = true

theorem NewLine.clock {p : Bool} {c : Nat} {t v : Tia} (h : NewLine p c t) (hv : Clock t v) (hc : c < 451) :
    NewLine p (c + 1) v where
  line := h.line.clock hv hc
  newline _ := by
    have fires := h.line.fires hc
    rw [hv.newline, Bool.eq_iff_iff, queueStage_newline, fires]
    simp
  latch hc := by
    have cc := (h.line.clock hv (by omega)).cc
    rw [hv.hmoveLatch, cc, hc]
    exact Bool.and_false _
  hblank hp hc := by
    subst hp
    have onTime : OnTime .newline 224 c t := h.line.newline
    obtain ⟨q, hq⟩ := onTime.youngest (by omega) (by omega)
    rw [hv.hblank]
    exact queueStage_hblank_newline hq (by omega)

/-- HBLANK ends at its clock of the line (R350, R351). -/
theorem hblank_ends {t : Tia} {pins : List (Bool × Bool)} (h : t.tags.Nodup) (hcc : t.cc = 63)
    (hb : t.hblank = true) (hoff : .hblankOff ∉ t.tags) (hnew : .newline ∉ t.tags) (hp : pins.length ≤ 164) :
    ∃ u, tiaRun pins t = .ok u ∧ HblankEnd t.rsyncPending t.hmoveLatch (63 + pins.length) u := by
  refine tiaRun_induct (I := fun k => HblankEnd t.rsyncPending t.hmoveLatch (63 + k)) h ?_
    fun k u v hk i c => i.clock c (by omega)
  refine ⟨⟨hcc, rfl, onTime_before hnew ?_⟩, rfl, onTime_before hoff ?_, ?_⟩
  · cases t.rsyncPending <;> decide
  · cases t.hmoveLatch <;> decide
  · rw [hb]
    cases t.hmoveLatch <;> rfl

/-- Settles O45, by the invariants of the line's events over the clocks. -/
theorem lineEventsAtTheirClocks : Obligations.LineEventsAtTheirClocks := by
  unfold Obligations.LineEventsAtTheirClocks
  refine ⟨fun t pins h hcc hb hoff hnew hp => ?_, fun t pins h hcc hs hc h1 hp => ?_,
    fun t pins h hcc hnew h1 hp => ?_⟩
  · obtain ⟨u, e, i⟩ := hblank_ends h hcc hb hoff hnew hp
    have cc : u.cc = 63 + pins.length := by rw [i.line.cc]; omega
    exact ⟨u, e, cc, by rw [i.hblank, cc]⟩
  · obtain ⟨u, e, i⟩ := tiaRun_induct (pins := pins) (I := fun k => SyncSignals t.sigCburst (15 + k)) h
      ⟨hcc, onTime_before hs (by decide), onTime_before hc (by decide), by omega, rfl⟩
      fun k u v hk i c => i.clock c (by omega) (by omega)
    have cc := i.cc
    exact ⟨u, e, cc, by rw [i.sigHsync (by omega), cc], by rw [i.sigCburst, cc]⟩
  · obtain ⟨u, e, i⟩ := tiaRun_induct (pins := pins) (I := fun k => NewLine t.rsyncPending (223 + k)) h
      ⟨⟨by rw [hcc], rfl, onTime_before hnew (by cases t.rsyncPending <;> decide)⟩, by omega, by omega,
        by omega⟩
      fun k u v hk i c => i.clock c (by omega)
    have cc := i.line.cc
    have zero : u.cc = 0 ↔ 223 + pins.length = 228 := by rw [cc]; omega
    refine ⟨u, e, cc, ?_, fun h0 => i.latch (zero.1 h0), fun hp h0 => i.hblank hp (zero.1 h0)⟩
    rw [i.newline (by omega), decide_eq_decide.2 zero]

end Sys2Proof.Machine
end

section
/-! PROOFS of the family 61_tia_clock.md, WSYNC, RSYNC and HMOVE. -/

namespace Sys2Proof.Machine

/-! ### WSYNC (61_tia_clock.md R354, R355) -/

/-- After the write cycle to WSYNC, RDY is high exactly at the two clocks that the tick reaches past cc 227. -/
theorem memWrite_wsync {s t : State} {addr : Word} {v : Byte} (h : Ready s)
    (hsel : chipSelect (busAddr addr) = .tia) (hreg : addr.toNat % 64 = 2) (e : memWrite addr v s = .next t) :
    t.tia.rdy = decide (t.tia.cc = 227 ∨ t.tia.cc = 0) := by
  obtain ⟨u, w, p1, p2, p3, hu, hw, hrun⟩ := memWrite_tia h e hsel
  rw [hreg] at hu hw
  obtain ⟨u', eu, hn, -⟩ := clockStage_ok
    (queueStage_tags (t := { s.tia with inbox := some (BitVec.ofNat 6 2, v) }) h.2.2)
  cases hu.symm.trans eu
  cases (show tiaWrite (BitVec.ofNat 6 2) v { u with inbox := none } = .ok { u with inbox := none, rdy := false }
    from rfl).symm.trans hw
  obtain ⟨x, ex, k⟩ := tiaRun_clocked [p2, p3] (t := restOfClock p1 { u with inbox := none, rdy := false }) hn
  cases hrun.symm.trans ex
  have lt := cc_lt (restOfClock p1 { u with inbox := none, rdy := false })
  have low : (restOfClock p1 { u with inbox := none, rdy := false }).rdy = false := rfl
  rw [k.rdy, k.cc, low, Bool.false_or, decide_eq_decide]
  simp only [List.length_cons, List.length_nil]
  omega

/-- A stall with RDY low, by its cycles. -/
theorem stall_low {s : State} (h : Ready s) (hrdy : s.tia.rdy = false) :
    ∃ u, stall s = .next u ∧ u.cycleCount = s.cycleCount + stallCycles s.tia.cc ∧
      u.tia.cc = (s.tia.cc + 3 * stallCycles s.tia.cc) % 228 ∧ u.tia.rdy = true ∧ SameCpu s u := by
  obtain ⟨u, e, r, hr, -, count, cc⟩ := stall_ready h
  exact ⟨u, e, by rw [count, hrdy]; rfl, cc hrdy, hr, r.frame.cpu⟩

/-- Settles O46, by where the write cycle leaves the clock. -/
theorem wsyncStallsToTheEndOfTheLine : Obligations.WsyncStallsToTheEndOfTheLine := by
  unfold Obligations.WsyncStallsToTheEndOfTheLine
  intro s t addr v h hsel hreg e
  have rdy := memWrite_wsync h hsel hreg e
  obtain ⟨t', e', w, -⟩ := memWrite_ready addr v h
  cases e.symm.trans e'
  refine ⟨fun hlo hhi => ?_, fun h1 => ?_, fun hc => ?_⟩
  · have low : t.tia.rdy = false := by rw [rdy, decide_eq_false_iff_not]; omega
    have cycles : stallCycles t.tia.cc = (229 - t.tia.cc) / 3 := if_neg (by omega)
    obtain ⟨u, eu, count, cc, hr, cpu⟩ := stall_low w.ready low
    rw [cycles] at count cc
    exact ⟨low, u, eu, count, cc, hr, cpu, fun hd => ⟨by omega, by omega⟩⟩
  · have low : t.tia.rdy = false := by rw [rdy, h1]; rfl
    obtain ⟨u, eu, count, cc, hr, cpu⟩ := stall_low w.ready low
    rw [h1] at count cc
    exact ⟨low, u, eu, count, cc, hr, cpu⟩
  · have high : t.tia.rdy = true := by rw [rdy, decide_eq_true hc]
    exact ⟨high, stall_rdy high⟩

/-! ### RSYNC (61_tia_clock.md R356) -/

/-- After an RSYNC, in the clocks up to the fourth. -/
structure Rsynced (k : Nat) (t : Tia) : Prop where
  cc      : t.cc = k
  onTime  : OnTime .newline 0 k t
  pending : t.rsyncPending = decide (k < 4)
  hblank  : k = 4 → t.hblank = true

theorem Rsynced.clock {k : Nat} {t v : Tia} (h : Rsynced k t) (hv : Clock t v) (hk : k < 4) : Rsynced (k + 1) v := by
  have cc : v.cc = k + 1 := by rw [hv.cc, h.cc]; omega
  have fires := h.onTime.fires
  refine ⟨cc, h.onTime.clock hv (by omega) rfl ?_, ?_, fun h4 => ?_⟩
  · rw [lineEvent_newline, cc]
    omega
  · rw [hv.rsyncPending]
    by_cases hf : t.Fires .newline
    · rw [queueStage_rsyncPending_clears hf, eq_comm, decide_eq_false_iff_not]
      have := fires.1 hf
      omega
    · rw [queueStage_rsyncPending t hf, h.pending, decide_eq_decide]
      rw [fires] at hf
      omega
  · obtain ⟨q, hq⟩ := h.onTime.youngest (by omega) (by omega)
    rw [hv.hblank]
    exact queueStage_hblank_newline hq (by omega)

/-- The TIA that an RSYNC leaves. -/
def rsynced (t : Tia) : Tia :=
  { t with
    hsync := 0, pclk := 2, rsyncPending := true
    dq := (t.dq.filter fun sl => sl.event.tag ≠ .newline) ++ [⟨4, .newline⟩] }

theorem rsynced_cc (t : Tia) : (rsynced t).cc = 0 := by
  simp only [Tia.cc, rsynced]
  rfl

theorem strobeRsync_ok {t : Tia} (h : t.tags.Nodup) : strobeRsync t = .ok (rsynced t) :=
  schedule_ok (t := { t with hsync := 0, pclk := 2, rsyncPending := true }) 4 .newline h

theorem rsynced_start (t : Tia) (p : Bool × Bool) : Rsynced 0 (restOfClock p (rsynced t)) where
  cc := rsynced_cc t
  onTime :=
    { slots := fun r => by
        change _ ∈ (t.dq.filter fun sl => sl.event.tag ≠ .newline) ++ [⟨4, .newline⟩] ↔ _
        simp [Event.tag]
      youngest := fun _ _ => ⟨_, rfl⟩ }
  pending := rfl
  hblank := nofun

/-- Settles O47, by the four clocks that the NEWLINE waits. -/
theorem rsyncRestartsTheLine : Obligations.RsyncRestartsTheLine := by
  unfold Obligations.RsyncRestartsTheLine
  refine ⟨fun t v h => ?_, fun t hc hp => ?_⟩
  · have tags : (rsynced t).tags.Nodup :=
      schedule_tags (t := { t with hsync := 0, pclk := 2, rsyncPending := true }) h (strobeRsync_ok h)
    have run : ∀ p (pins : List (Bool × Bool)), pins.length ≤ 4 →
        ∃ w, tiaRun pins (restOfClock p (rsynced t)) = .ok w ∧ Rsynced pins.length w := fun p pins hp =>
      tiaRun_induct (I := Rsynced) tags (rsynced_start t p) fun k u w hk i c => i.clock c (by omega)
    refine ⟨rsynced t, strobeRsync_ok h, rfl, rfl, rsynced_cc t, rfl, rfl, rfl, ?_,
      fun p pins hp => ?_, fun p pins hp => ?_⟩
    · simp [rsynced, List.filter_append, Event.tag]
    · obtain ⟨w, e, i⟩ := run p pins (by omega)
      exact ⟨w, e, i.cc, by rw [i.pending, decide_eq_true (by omega)]⟩
    · obtain ⟨w, e, i⟩ := run p pins (by omega)
      exact ⟨w, e, by rw [i.cc, hp], by rw [i.pending, hp]; rfl, i.hblank hp⟩
  · simp only [decodeHsync, hc, hp]
    rfl

end Sys2Proof.Machine
end

section
/-! PROOFS of the family 61_tia_clock.md, HMOVE. -/

namespace Sys2Proof.Machine

/-! ### The ripple of one object (61_tia_clock.md R360, R361) -/

/-- After j ripple steps since an HMOVE, for an object whose motion register is h. -/
structure Rippling (o : Obj) (h : BitVec 4) (j : Nat) (t : Tia) : Prop where
  hm   : t.hm.get o = h
  more : t.more.get o = decide (j ≤ (h ^^^ 8).toNat)
  now  : t.rippleNow.map Fin.val = if j < 16 then some (15 - j) else none

section rippling
variable {o : Obj} {h : BitVec 4} {j : Nat} {t u v : Tia}

theorem Rippling.congr (i : Rippling o h j t) (e : u.ripple = t.ripple) : Rippling o h j u where
  hm := (congrArg (fun w : Tia => w.hm.get o) e).trans i.hm
  more := (congrArg (fun w : Tia => w.more.get o) e).trans i.more
  now := (congrArg (fun w : Tia => w.rippleNow.map Fin.val) e).trans i.now

/-- The pulses are not part of it. -/
theorem Rippling.cleared (i : Rippling o h j t) : Rippling o h j { t with pulse := .all false } :=
  ⟨i.hm, i.more, i.now⟩

/-- Nor is what the rest of the clock changes. -/
theorem Rippling.rest (i : Rippling o h j t) (p : Bool × Bool) : Rippling o h j (restOfClock p t) :=
  ⟨i.hm, i.more, i.now⟩

theorem strobeHmove_rippling (t : Tia) (o : Obj) : Rippling o (t.hm.get o) 0 (strobeHmove t) where
  hm := rfl
  more := by cases o <;> rfl
  now := rfl

theorem PerObj.get_each {α : Type} (g : Obj → α) (o : Obj) : (PerObj.each g).get o = g o := by
  cases o <;> rfl

theorem PerObj.get_all {α : Type} (a : α) (o : Obj) : (PerObj.all a).get o = a := by
  cases o <;> rfl

/-- The ripple stops an object in the step that its motion register names. -/
theorem rippleStops_iff (h : BitVec 4) {r : Fin 16} (hr : r.val = 15 - j) (hj : j < 16) :
    rippleStops r h = true ↔ j = (h ^^^ 8).toNat := by
  have sum : ∀ h : BitVec 4, (h ^^^ 7).toNat + (h ^^^ 8).toNat = 15 := by decide
  have := sum h
  rw [rippleStops, beq_iff_eq, hr]
  omega

/-- One ripple step: the object goes on to the next, with a pulse while it has more. -/
theorem Rippling.step (i : Rippling o h j t) (hp : t.pulse.get o = false) : Rippling o h (j + 1) (rippleStep t) ∧
    (rippleStep t).pulse.get o = decide (j + 1 ≤ (h ^^^ 8).toNat) := by
  have lt := (h ^^^ 8).isLt
  have now := i.now
  cases hr : t.rippleNow with
  | none =>
    have done : ¬ j < 16 := fun k => by rw [hr, if_pos k] at now; cases now
    rw [rippleStep_idle hr, hp]
    refine ⟨⟨i.hm, ?_, ?_⟩, (decide_eq_false (by omega)).symm⟩
    · rw [i.more, decide_eq_decide]
      omega
    · rw [hr, if_neg (by omega)]
      rfl
  | some r =>
    have running : j < 16 := by
      by_contra k
      rw [hr, if_neg k] at now
      cases now
    have val : r.val = 15 - j := by
      rw [hr, if_pos running] at now
      exact Option.some.inj now
    have goes : (t.more.get o && !rippleStops r (t.hm.get o)) = decide (j + 1 ≤ (h ^^^ 8).toNat) := by
      have stops := rippleStops_iff h val running
      rw [i.hm, i.more, Bool.eq_iff_iff, Bool.and_eq_true, Bool.not_eq_true', ← Bool.not_eq_true, stops]
      simp only [decide_eq_true_eq]
      omega
    rw [rippleStep_running hr]
    refine ⟨⟨i.hm, (PerObj.get_each _ o).trans goes, ?_⟩, (PerObj.get_each _ o).trans goes⟩
    change (if r.val = 0 then none else some (r - 1)).map Fin.val = _
    by_cases last : r.val = 0
    · rw [if_pos last, if_neg (by omega)]
      rfl
    · have pred : (r - 1).val = 15 - (j + 1) := by
        rw [Fin.val_sub_one_of_ne_zero fun k => last (congrArg Fin.val k)]
        omega
      rw [if_neg last, if_pos (by omega), Option.map_some, pred]

end rippling

/-- What a colour clock does to the ripple. -/
theorem Clock.ripple {t v : Tia} (h : Clock t v) : v.ripple =
    if v.cc % 4 = 0 then (rippleStep { t with pulse := .all false }).ripple
    else ({ t with pulse := .all false } : Tia).ripple := by
  obtain ⟨pins, c, s, rfl⟩ := h.stages
  have q : (queueStage t).ripple = t.ripple :=
    queueStage_keeps Tia.ripple (fun _ _ => rfl) fun e _ _ => by cases e <;> rfl
  have same : ({ queueStage t with pulse := .all false } : Tia).ripple =
      ({ t with pulse := .all false } : Tia).ripple :=
    congrArg (fun w : Tia => { w with pulse := .all false }) q
  exact rippleStep_ripple same ▸ same ▸ s.ripple

/-- k colour clocks after the one, at clock c, that served an HMOVE. -/
structure Hmoved (o : Obj) (h : BitVec 4) (c k : Nat) (t : Tia) : Prop where
  cc       : t.cc = (c + k) % 228
  rippling : Rippling o h ((c % 4 + k) / 4) t
  pulse    : 1 ≤ k → (t.pulse.get o = true ↔ (c + k) % 4 = 0 ∧ (c % 4 + k) / 4 ≤ (h ^^^ 8).toNat)

theorem Hmoved.clock {o : Obj} {h : BitVec 4} {c k : Nat} {t v : Tia} (i : Hmoved o h c k t) (hv : Clock t v) :
    Hmoved o h c (k + 1) v := by
  have cc : v.cc = (c + (k + 1)) % 228 := by rw [hv.cc, i.cc]; omega
  have ripple := hv.ripple
  have cleared := i.rippling.cleared
  by_cases rise : v.cc % 4 = 0
  · rw [if_pos rise] at ripple
    have steps : (c % 4 + (k + 1)) / 4 = (c % 4 + k) / 4 + 1 := by omega
    obtain ⟨next, pulse⟩ := cleared.step (PerObj.get_all false o)
    have here : v.pulse.get o = _ := (congrArg (fun w : Tia => w.pulse.get o) ripple).trans pulse
    refine ⟨cc, steps ▸ next.congr ripple, fun _ => ?_⟩
    rw [here, steps, decide_eq_true_eq]
    omega
  · rw [if_neg rise] at ripple
    have steps : (c % 4 + (k + 1)) / 4 = (c % 4 + k) / 4 := by omega
    have here : v.pulse.get o = false :=
      (congrArg (fun w : Tia => w.pulse.get o) ripple).trans (PerObj.get_all false o)
    refine ⟨cc, steps ▸ cleared.congr ripple, fun _ => ?_⟩
    rw [here]
    exact iff_of_false Bool.false_ne_true (by omega)

/-- The pulses of n ripple steps, after j of them. -/
theorem pulseCount_rippling {o : Obj} {h : BitVec 4} (n : Nat) : ∀ {j : Nat} {t : Tia}, Rippling o h j t →
    pulseCount o n t = min (j + n) (h ^^^ 8).toNat - min j (h ^^^ 8).toNat := by
  induction n with
  | zero => intro j t _; rw [pulseCount]; omega
  | succ n ih =>
    intro j t i
    obtain ⟨next, pulse⟩ := i.cleared.step (PerObj.get_all false o)
    rw [pulseCount, pulse, ih next]
    by_cases more : j + 1 ≤ (h ^^^ 8).toNat
    · rw [decide_eq_true more, Bool.toNat_true]
      omega
    · rw [decide_eq_false more, Bool.toNat_false]
      omega

/-- Settles O48, by the ripple of one object: the step that stops it is the one its motion register names. -/
theorem hmovePulses : Obligations.HmovePulses := by
  unfold Obligations.HmovePulses
  refine ⟨fun t o p pins h h1 => ?_, fun t o n _ => ⟨?_, ?_⟩⟩
  · have start : (t.cc % 4 + 0) / 4 = 0 := by omega
    obtain ⟨w, e, i⟩ := tiaRun_induct (t := restOfClock p (strobeHmove t)) (pins := pins)
      (I := Hmoved o (t.hm.get o) t.cc) h
      ⟨(Nat.mod_eq_of_lt (cc_lt t)).symm, by rw [start]; exact (strobeHmove_rippling t o).rest p, by omega⟩
      fun k u v _ i c => i.clock c
    exact ⟨w, e, i.pulse h1⟩
  · rw [pulseCount_rippling n (strobeHmove_rippling t o)]
    omega
  · have signed : ∀ h : BitVec 4, ((h ^^^ 8).toNat : Int) = h.toInt + 8 := by decide
    exact signed _

end Sys2Proof.Machine
end

section
/-! PROOFS of the family 62_tia_objects.md, what a colour clock with or without a service does to the object counters
and to the latches of collisions and buttons. -/

namespace Sys2Proof.Machine

/-- Bits as a number's: m of them from bit s on. -/
theorem extractLsb'_eq_ofNat {n : Nat} (a : BitVec n) (s m : Nat) :
    a.extractLsb' s m = BitVec.ofNat m (a.toNat / 2 ^ s) := by
  rw [BitVec.extractLsb', Nat.shiftRight_eq_div_pow]

/-! ### The service of a write (62_tia_objects.md R383) -/

/-- The object counters, the latches and the NEWLINE mark, and nothing else: what only the events of the queue, the
service of VBLANK and of CXCLR, and the last two stages change. -/
def Tia.latches (t : Tia) : Tia :=
  { Tia.reset with
    pos := t.pos, newline := t.newline, cx := t.cx
    vblankLatch := t.vblankLatch, inptLatch4 := t.inptLatch4, inptLatch5 := t.inptLatch5 }

/-- What a write does to the latches, by its register: VBLANK (R384), CXCLR (R391), any other. -/
def latchWrite (n : Nat) (v : Byte) (t : Tia) : Tia :=
  match n with
  | 0x01 => writeVblank v t
  | 0x2C => { t with cx := .clear }
  | _ => t

theorem latchWrite_congr {n : Nat} {v : Byte} {t u : Tia} (h : u.latches = t.latches) :
    (latchWrite n v u).latches = (latchWrite n v t).latches := by
  simp only [Tia.latches, Tia.mk.injEq, true_and] at h
  obtain ⟨pos, cx, newline, vblankLatch, inptLatch4, inptLatch5⟩ := h
  unfold latchWrite
  split <;> simp only [Tia.latches, writeVblank, *]

theorem tiaWritten_latches (reg : BitVec 6) (v : Byte) (t : Tia) :
    (tiaWritten reg v t).latches = (latchWrite reg.toNat v t).latches := by
  have scheduled : ∀ n e x, x.latches = t.latches → (leftBy (schedule n e x)).latches = t.latches := by
    intro n e x h
    obtain ⟨q, hq⟩ := leftBy_schedule n e x
    rw [hq]
    exact h
  unfold tiaWritten tiaWrite
  generalize reg.toNat = n
  split
  case h_4 | h_14 | h_15 | h_16 | h_17 | h_18 | h_19 | h_20 | h_21 => exact scheduled _ _ _ rfl
  case h_46 =>
    unfold latchWrite
    split
    · contradiction
    · contradiction
    · rfl
  all_goals rfl

/-- The write that a clock serves. -/
def servedIn (service : Bool) (t : Tia) : Option (BitVec 6 × Byte) := if service then t.inbox else none

/-- What the service of a write, or of none, does to the latches. -/
def latchServe (write : Option (BitVec 6 × Byte)) (t : Tia) : Tia :=
  match write with
  | none => t
  | some (reg, v) => latchWrite reg.toNat v t

theorem serviceStage_latches {service : Bool} {c w : Tia} (e : serviceStage service c = .ok w) :
    w.latches = (latchServe (servedIn service c) c).latches := by
  cases service with
  | false => cases e; rfl
  | true =>
    cases hi : c.inbox with
    | none =>
      simp only [serviceStage, hi] at e
      cases e
      rw [servedIn, if_pos rfl, hi]
      rfl
    | some write =>
      obtain ⟨reg, v⟩ := write
      simp only [serviceStage, hi] at e
      have served := tiaWritten_latches reg v { c with inbox := none }
      rw [tiaWritten, e] at served
      rw [servedIn, if_pos rfl, hi]
      exact served.trans (latchWrite_congr rfl)

/-- The clock before with the counters and the NEWLINE mark as the queue leaves them: all that the queue and the clock
stage do to the latches. -/
def queued (t : Tia) : Tia := { t with pos := (queueStage t).pos, newline := (queueStage t).newline }

/-- A colour clock that completes: the state w after its stage 3 has the latches that the service leaves. -/
theorem tiaStep_served {service b4 b5 : Bool} {t u : Tia} {g : Signal} (e : tiaStep service b4 b5 t = .ok (u, g)) :
    ∃ w, u = restOfClock (b4, b5) w ∧ g = signalOf (objectStage w) ∧
      w.latches = (latchServe (servedIn service t) (queued t)).latches := by
  obtain ⟨c, w, ec, ew, rfl, rfl⟩ := tiaStep_eq_ok e
  refine ⟨w, rfl, rfl, ?_⟩
  have frame := (clockStage_spec ec).frame
  have inbox : servedIn service c = servedIn service t := by
    have same : c.inbox = t.inbox := (congrArg Tia.inbox frame :).trans (queueStage_sameClock t).inbox
    rw [servedIn, same, servedIn]
  have queue : (queueStage t).latches = (queued t).latches := by
    have rest := queueStage_keeps (fun u : Tia => ({ u with pos := .all 0, newline := false } : Tia).latches) (t := t)
      (fun _ _ => rfl) fun e _ _ => by cases e <;> rfl
    exact (congrArg (fun u : Tia => { u with pos := (queueStage t).pos, newline := (queueStage t).newline }) rest :)
  have clock : c.latches = (queueStage t).latches := (congrArg Tia.latches frame :)
  rw [serviceStage_latches ew, inbox]
  unfold latchServe
  split
  · exact clock.trans queue
  · exact latchWrite_congr (clock.trans queue)

section serve
variable {write : Option (BitVec 6 × Byte)} {t : Tia}

theorem latchServe_pos : (latchServe write t).pos = t.pos := by
  unfold latchServe latchWrite
  split
  · rfl
  · split <;> rfl

theorem latchServe_newline : (latchServe write t).newline = t.newline := by
  unfold latchServe latchWrite
  split
  · rfl
  · split <;> rfl

theorem latchServe_cx : (latchServe write t).cx = if write.map Prod.fst = some 0x2C then .clear else t.cx := by
  cases write with
  | none => rfl
  | some write =>
    have reg : write.1 = 0x2C ↔ write.1.toNat = 0x2C := BitVec.toNat_inj.symm
    simp only [latchServe, Option.map_some, Option.some.injEq, reg]
    unfold latchWrite
    split
    next h => rw [h]; rfl
    next h => rw [h]; rfl
    next h => rw [if_neg h]

end serve

end Sys2Proof.Machine
end

section
/-! PROOFS of the family 62_tia_objects.md, what a register write schedules: the playfield and the object counters. -/

namespace Sys2Proof.Machine

/-! ### A scheduled write in the delay queue (10_state.md R60) -/

/-- The line schedules no playfield and no counter. -/
theorem lineEvent_tag_ne {cc : Nat} {latch pending : Bool} {e e' : Event} (h : lineEvent cc latch pending = some e)
    (ht : e'.tag = .pf ∨ ∃ o, e'.tag = .res o) : e'.tag ≠ e.tag := by
  intro k
  rw [k] at ht
  rcases lineEvent_cases h with rfl | rfl | rfl | rfl <;> simp [Event.tag] at ht

/-- k clocks after the event e was scheduled n clocks ahead, no other of its tag waits. -/
def Waits (e : Event) (n k : Nat) (t : Tia) : Prop :=
  ∀ r e', e'.tag = e.tag → (⟨r, e'⟩ ∈ t.dq ↔ e' = e ∧ k < n ∧ k + r = n)

section waits
variable {e : Event} {n k : Nat} {t u v : Tia}

theorem schedule_waits (h : schedule n e t = .ok u) (hn : 0 < n) : Waits e n 0 u := by
  intro r e' ht
  rw [schedule_kept h]
  simp only [List.mem_append, List.mem_filter, List.mem_singleton, Slot.mk.injEq, decide_eq_true_eq, ht, ne_eq,
    not_true_eq_false, and_false, false_or]
  rw [and_comm, Nat.zero_add, and_iff_right hn]

theorem Waits.clock (h : Waits e n k t) (hv : Clock t v) (he : e.tag = .pf ∨ ∃ o, e.tag = .res o) :
    Waits e n (k + 1) v := by
  intro r e' ht
  have notLine : ∀ e'', lineEvent v.cc v.hmoveLatch v.rsyncPending = some e'' → e'.tag ≠ e''.tag :=
    fun e'' hl => lineEvent_tag_ne hl (ht ▸ he)
  have notScheduled : lineEvent v.cc v.hmoveLatch v.rsyncPending ≠ some e' := fun hl => notLine e' hl rfl
  rw [hv.dq, mem_enqueue, mem_queueStage_dq, h _ _ ht]
  constructor
  · rintro (⟨hl, -⟩ | ⟨⟨hr, he', hk, hn⟩, -⟩)
    · exact absurd hl notScheduled
    · exact ⟨he', by omega, by omega⟩
  · rintro ⟨he', hk, hn⟩
    exact .inr ⟨⟨by omega, he', by omega, by omega⟩, notLine⟩

theorem Waits.fires (h : Waits e n k t) {e' : Event} (ht : e'.tag = e.tag) :
    t.Fires e' ↔ e' = e ∧ k + 1 = n := by
  constructor
  · rintro ⟨⟨r, x⟩, hsl, rfl, hr⟩
    obtain ⟨he, hk, hn⟩ := (h _ _ ht).1 hsl
    change r ≤ 1 at hr
    exact ⟨he, by omega⟩
  · rintro ⟨rfl, hn⟩
    exact ⟨⟨1, e'⟩, (h _ _ rfl).2 ⟨rfl, by omega, hn⟩, rfl, le_rfl⟩

end waits

/-! ### The playfield (62_tia_objects.md R386) -/

theorem Clock.pfWork {t v : Tia} (h : Clock t v) : v.pfWork = (queueStage t).pfWork := by
  obtain ⟨pins, c, s, rfl⟩ := h.stages
  exact (congrArg Tia.pfWork s.frame :)

/-- k clocks after a playfield write that left the registers a, b, c and found the pattern old. -/
structure PfWritten (a b c : Byte) (old : BitVec 20) (k : Nat) (t : Tia) : Prop where
  waits  : Waits (.pf a b c) 5 k t
  pfWork : t.pfWork = if k < 5 then old else buildPlayfield a b c

theorem PfWritten.clock {a b c : Byte} {old : BitVec 20} {k : Nat} {t v : Tia} (h : PfWritten a b c old k t)
    (hv : Clock t v) (hk : k < 5) : PfWritten a b c old (k + 1) v := by
  refine ⟨h.waits.clock hv (.inl rfl), ?_⟩
  have fires : ∀ x y z, t.Fires (.pf x y z) ↔ Event.pf x y z = .pf a b c ∧ k + 1 = 5 :=
    fun _ _ _ => h.waits.fires rfl
  rw [hv.pfWork]
  by_cases h5 : k + 1 = 5
  · rw [if_neg (by omega)]
    refine queueStage_writes Tia.pfWork ((fires a b c).2 ⟨rfl, h5⟩) (fun _ => rfl) fun e he hne _ => ?_
    cases e with
    | pf x y z => exact absurd ((fires x y z).1 he).1 hne
    | _ => rfl
  · rw [if_pos (by omega), ← h.pfWork.trans (if_pos hk)]
    refine queueStage_keeps Tia.pfWork (fun _ _ => rfl) fun e he _ => ?_
    cases e with
    | pf x y z => exact absurd ((fires x y z).1 he).2 h5
    | _ => rfl

/-- The fields that a playfield write leaves, and its schedule. -/
theorem tiaWrite_playfield {t u : Tia} {reg : BitVec 6} {v : Byte} (hr : reg = 0x0D ∨ reg = 0x0E ∨ reg = 0x0F)
    (e : tiaWrite reg v t = .ok u) : ∃ x, schedule 5 (.pf x.pf0 x.pf1 x.pf2) x = .ok u ∧
      x = { t with
        pf0 := if reg = 0x0D then v &&& 0xF0 else t.pf0, pf0Last := if reg = 0x0D then v else t.pf0Last
        pf1 := if reg = 0x0E then v else t.pf1, pf2 := if reg = 0x0F then v else t.pf2 } := by
  rcases hr with rfl | rfl | rfl <;> exact ⟨_, e, rfl⟩

/-- Settles O49, by the five clocks that the commit waits. -/
theorem playfieldCommitsAfterFiveClocks : Obligations.PlayfieldCommitsAfterFiveClocks := by
  unfold Obligations.PlayfieldCommitsAfterFiveClocks
  intro t u reg v h hr e
  obtain ⟨x, es, hx⟩ := tiaWrite_playfield hr e
  have hu := schedule_kept es
  have tags : x.tags.Nodup := by rw [hx]; exact h
  have utags := schedule_tags tags es
  have pf0 : u.pf0 = x.pf0 := by rw [hu]
  have pf1 : u.pf1 = x.pf1 := by rw [hu]
  have pf2 : u.pf2 = x.pf2 := by rw [hu]
  have start : PfWritten x.pf0 x.pf1 x.pf2 t.pfWork 0 u :=
    ⟨schedule_waits es (by decide), by rw [hu, hx]; rfl⟩
  have run : ∀ p (pins : List (Bool × Bool)), pins.length ≤ 5 → ∃ w, tiaRun pins (restOfClock p u) = .ok w ∧
      PfWritten x.pf0 x.pf1 x.pf2 t.pfWork pins.length w := fun p pins hp =>
    tiaRun_induct (I := PfWritten x.pf0 x.pf1 x.pf2 t.pfWork) utags ⟨start.waits, start.pfWork⟩
      fun k _ _ hk i c => i.clock c (by omega)
  refine ⟨fun p pins hp => ?_, fun p pins hp => ?_, ?_, ?_, ?_, ?_⟩
  · obtain ⟨w, ew, i⟩ := run p pins (by omega)
    exact ⟨w, ew, by rw [i.pfWork, if_pos (by omega)]⟩
  · obtain ⟨w, ew, i⟩ := run p pins (by omega)
    exact ⟨w, ew, by rw [i.pfWork, if_neg (by omega), pf0, pf1, pf2]⟩
  · rw [pf0, hx]
  · rw [hu, hx]
  · rw [pf1, hx]
  · rw [pf2, hx]

/-! ### Object counters (62_tia_objects.md R387, R388, R400) -/

/-- The object is no missile that is locked to its player (R388). -/
def Unlocked (o : Obj) (t : Tia) : Prop := (o = .m0 → t.pl0.resmp = false) ∧ (o = .m1 → t.pl1.resmp = false)

theorem objectStage_pos {o : Obj} {t : Tia} (h : Unlocked o t) : (objectStage t).pos.get o = tickedPos t o := by
  obtain ⟨h0, h1⟩ := h
  cases o with
  | m0 => exact if_neg (Bool.eq_false_iff.1 (h0 rfl))
  | m1 => exact if_neg (Bool.eq_false_iff.1 (h1 rfl))
  | _ => rfl

/-- By how much a counter goes on in a clock (R400). -/
def tickBy (t : Tia) (o : Obj) : Nat := if t.hblank = false ∨ t.pulse.get o = true then 1 else 0

theorem tickedPos_val (t : Tia) (o : Obj) : (tickedPos t o).val = ((t.pos.get o).val + tickBy t o) % 160 := by
  unfold tickedPos tickBy
  have lt := (t.pos.get o).isLt
  by_cases h : t.hblank = false ∨ t.pulse.get o = true
  · rw [if_pos (by simpa using h), if_pos h, Fin.val_add]
    rfl
  · rw [if_neg (by simpa using h), if_neg h]
    exact (Nat.mod_eq_of_lt lt).symm

theorem PerObj.get_set {α : Type} (f : PerObj α) (o o' : Obj) (a : α) :
    (f.set o a).get o' = if o' = o then a else f.get o' := by
  cases o <;> cases o' <;> rfl

theorem Event.apply_pos {e : Event} {o : Obj} (h : e.tag ≠ .res o) (t : Tia) :
    (e.apply t).pos.get o = t.pos.get o := by
  cases e with
  | res o' pos =>
    have ne : o ≠ o' := fun k => h (congrArg Tag.res k.symm)
    exact (PerObj.get_set _ _ _ _).trans (if_neg ne)
  | _ => rfl

theorem queueStage_pos {t : Tia} {o : Obj} (h : ∀ sl ∈ t.dq, sl.event.tag = .res o → 1 < sl.remaining) :
    (queueStage t).pos.get o = t.pos.get o :=
  queueStage_keeps (fun u => u.pos.get o) (fun _ _ => rfl) fun e he u => Event.apply_pos (fun ht => by
    obtain ⟨sl, hsl, rfl, hr⟩ := he
    have := h sl hsl ht
    omega) u

/-- The clock in which a counter's action fires. -/
theorem queueStage_pos_res {t : Tia} {o : Obj} {pos : Fin 160} {n k : Nat} (h : Waits (.res o pos) n k t)
    (hn : k + 1 = n) : (queueStage t).pos.get o = pos :=
  queueStage_writes (fun u => u.pos.get o) ((h.fires rfl).2 ⟨rfl, hn⟩)
    (fun _ => (PerObj.get_set _ _ _ _).trans (if_pos rfl))
    fun _ he hne u => Event.apply_pos (fun ht => hne ((h.fires ht).1 he).1) u

/-- What a clock without a service does to an object's counter. -/
theorem Clock.pos {t v : Tia} (h : Clock t v) {o : Obj} (hu : Unlocked o v) :
    (v.pos.get o).val = (((queueStage t).pos.get o).val + tickBy v o) % 160 := by
  obtain ⟨pins, c, s, rfl⟩ := h.stages
  have moved : (restOfClock pins c).pos.get o = tickedPos c o := objectStage_pos hu
  have pos : c.pos = (queueStage t).pos := (congrArg Tia.pos s.frame :)
  rw [moved, tickedPos_val, pos]
  rfl

theorem Unlocked.congr {o : Obj} {t u : Tia} (h : Unlocked o t) (e : u.registers = t.registers) : Unlocked o u := by
  have pl0 : u.pl0 = t.pl0 := (congrArg Tia.pl0 e :)
  have pl1 : u.pl1 = t.pl1 := (congrArg Tia.pl1 e :)
  unfold Unlocked
  rw [pl0, pl1]
  exact h

theorem Clock.unlocked {t v : Tia} (h : Clock t v) {o : Obj} (hu : Unlocked o t) : Unlocked o v := hu.congr h.registers

/-- k clocks after a RESxx strobe that sets its object's counter to pos n clocks after its service. -/
structure Strobed (o : Obj) (pos : Fin 160) (n k : Nat) (t : Tia) : Prop where
  waits    : Waits (.res o pos) n k t
  unlocked : Unlocked o t
  pos      : k = n → (t.pos.get o).val = (pos.val + tickBy t o) % 160

theorem Strobed.clock {o : Obj} {pos : Fin 160} {n k : Nat} {t v : Tia} (h : Strobed o pos n k t) (hv : Clock t v) :
    Strobed o pos n (k + 1) v where
  waits := h.waits.clock hv (.inr ⟨o, rfl⟩)
  unlocked := hv.unlocked h.unlocked
  pos hn := by rw [hv.pos (hv.unlocked h.unlocked), queueStage_pos_res h.waits hn]

theorem resetPosition_delay_eq (o : Obj) (hblank : Bool) : (resetPosition o hblank).1 = if hblank then 2 else 4 := by
  cases o <;> cases hblank <;> rfl

/-- The counter after the clock in which its strobe's action fires. -/
theorem strobeReset_sets {t u w : Tia} {o : Obj} (p : Bool × Bool) {pins : List (Bool × Bool)} (h : t.tags.Nodup)
    (e : strobeReset o t = .ok u) (hu : Unlocked o t) (hp : pins.length = (resetPosition o t.hblank).1)
    (ew : tiaRun pins (restOfClock p u) = .ok w) :
    (w.pos.get o).val = ((resetPosition o t.hblank).2.val + tickBy w o) % 160 := by
  have positive : 0 < (resetPosition o t.hblank).1 := by
    rw [resetPosition_delay_eq]
    split <;> decide
  have unlocked : Unlocked o u := hu.congr (by rw [schedule_kept e]; rfl)
  have waits := schedule_waits e positive
  have tags := schedule_tags h e
  obtain ⟨x, ex, i⟩ := tiaRun_induct (pins := pins) (t := restOfClock p u)
    (I := Strobed o (resetPosition o t.hblank).2 (resetPosition o t.hblank).1) tags
    ⟨waits, unlocked, by omega⟩ fun _ _ _ _ i c => i.clock c
  cases ew.symm.trans ex
  exact i.pos hp

/-- The counter after a clock in which no action of its object fires. -/
theorem tiaStep_ticks {t u : Tia} {service b4 b5 : Bool} {g : Signal} {o : Obj}
    (e : tiaStep service b4 b5 t = .ok (u, g)) (hq : ∀ sl ∈ t.dq, sl.event.tag = .res o → 1 < sl.remaining)
    (hu : Unlocked o u) : (u.pos.get o).val = ((t.pos.get o).val + tickBy u o) % 160 := by
  obtain ⟨w, rfl, -, latches⟩ := tiaStep_served e
  have pos : w.pos = (queueStage t).pos := (congrArg Tia.pos latches :).trans latchServe_pos
  have moved : (restOfClock (b4, b5) w).pos.get o = tickedPos w o := objectStage_pos hu
  rw [moved, tickedPos_val, pos, queueStage_pos hq]
  rfl

/-- Where a missile locked to its player is (R388). -/
theorem lockedPos_val {pl : Player} (h : pl.resmp = true) (player missile : Fin 160) :
    (lockedPos pl player missile).val =
      (player.val + (Config.resmpOffset (BitVec.ofNat 3 pl.nusiz.toNat)).val) % 160 := by
  rw [lockedPos, if_pos h, Player.mode, extractLsb'_eq_ofNat, Nat.pow_zero, Nat.div_one, Fin.val_add]

/-- Settles O50: a strobe's action waits its clocks, and every clock moves each counter by its tick. -/
theorem objectCountersMove : Obligations.ObjectCountersMove := by
  unfold Obligations.ObjectCountersMove
  refine ⟨fun t u w o v p pins h e h0 h1 hp ew => ?_, fun t u service b4 b5 sig e =>
    ⟨fun o hq h0 h1 => tiaStep_ticks e hq ⟨h0, h1⟩, ?_⟩⟩
  · have strobe : strobeReset o t = .ok u := by cases o <;> exact e
    rw [strobeReset_sets p h strobe ⟨h0, h1⟩ (hp.trans (resetPosition_delay_eq o _).symm) ew]
    cases o <;> cases t.hblank <;> rfl
  · obtain ⟨w, rfl, -⟩ := tiaStep_served e
    exact ⟨fun h => lockedPos_val h _ _, fun h => lockedPos_val h _ _⟩

end Sys2Proof.Machine
end

section
/-! PROOFS of the family 62_tia_objects.md, register writes, the latches and the signal record. -/

namespace Sys2Proof.Machine

/-! ### Register writes (62_tia_objects.md R380 to R393) -/

theorem colourBits_eq_ofNat (v : Byte) : colourBits v = BitVec.ofNat 7 (v.toNat / 2) := extractLsb'_eq_ofNat v 1 7

theorem hmBits_eq_ofNat (v : Byte) : hmBits v = BitVec.ofNat 4 (v.toNat / 16) := extractLsb'_eq_ofNat v 4 4

theorem lowBits_eq_ofNat (v : Byte) (m : Nat) : v.extractLsb' 0 m = BitVec.ofNat m v.toNat := by
  rw [extractLsb'_eq_ofNat, Nat.pow_zero, Nat.div_one]

theorem writeVblank_eq (v : Byte) (t : Tia) : writeVblank v t = { t with
    vblankVideo := v.getLsbD 1, vblankLatch := v.getLsbD 6, vblankDump := v.getLsbD 7
    inptLatch4 := t.inptLatch4 || !v.getLsbD 6, inptLatch5 := t.inptLatch5 || !v.getLsbD 6 } := by
  unfold writeVblank
  cases v.getLsbD 6 <;> simp

theorem writeCtrlpf_eq (v : Byte) (t : Tia) : writeCtrlpf v t = { t with
    ctrlpf := BitVec.ofNat 6 v.toNat &&& 0x37, ctrlpfLast := BitVec.ofNat 6 v.toNat } := by
  rw [writeCtrlpf, ctrlpfBits, lowBits_eq_ofNat]

theorem tiaWrite_unused {reg : BitVec 6} (h : 0x2D ≤ reg.toNat) (v : Byte) (t : Tia) : tiaWrite reg v t = .ok t := by
  unfold tiaWrite
  generalize reg.toNat = n at h
  split
  case h_46 => rfl
  all_goals contradiction

/-- Settles O51, register by register. -/
theorem tiaRegisterWrites : Obligations.TiaRegisterWrites := by
  unfold Obligations.TiaRegisterWrites
  intro t v
  simp only [← colourBits_eq_ofNat, ← hmBits_eq_ofNat, ← writeCtrlpf_eq, ← writeVblank_eq]
  simp only [← lowBits_eq_ofNat]
  refine ⟨rfl, rfl, rfl, rfl, rfl, rfl, rfl, rfl, rfl, rfl, rfl, rfl, rfl, rfl, rfl, rfl, rfl, rfl, rfl, rfl, rfl,
    rfl, rfl, rfl, rfl, rfl, rfl, rfl, rfl, rfl, rfl, rfl, rfl, rfl, rfl,
    fun reg h => tiaWrite_unused h v t⟩

/-! ### The end of a clock (62_tia_objects.md R436, 64_scheduler.md R497) -/

/-- Settles O52: the pairs and the record are those of the state after the service, whose latches CXCLR may have
cleared. -/
theorem collisionsAndTheSignalRecord : Obligations.CollisionsAndTheSignalRecord := by
  unfold Obligations.CollisionsAndTheSignalRecord
  intro t u service b4 b5 sig e
  obtain ⟨w, rfl, rfl, latches⟩ := tiaStep_served e
  have cx : w.cx = if service = true ∧ t.inbox.map Prod.fst = some 0x2C then .clear else t.cx := by
    refine (congrArg Tia.cx latches :).trans (latchServe_cx.trans ?_)
    cases service <;> simp [servedIn, queued]
  have newline : w.newline = (queueStage t).newline := (congrArg Tia.newline latches :).trans latchServe_newline
  refine ⟨fun h => ?_, fun h => ?_, rfl, ?_⟩
  · exact (if_pos h).trans cx
  · rw [← cx]
    exact if_neg (Bool.eq_false_iff.1 h)
  · change w.newline = true ↔ _
    rw [newline, queueStage_newline]
    rfl

/-! ### TIA reads (62_tia_objects.md R381, R440 to R442) -/

theorem readBits_seven (b7 b6 : Bool) (d : Byte) : (readBits b7 b6 d).getLsbD 7 = b7 := by
  simp only [readBits, BitVec.getLsbD_append]
  simp

theorem readBits_six (b7 b6 : Bool) (d : Byte) : (readBits b7 b6 d).getLsbD 6 = b6 := by
  simp only [readBits, BitVec.getLsbD_append]
  simp

section read
variable {s : State} {a : Word}

/-- A TIA read goes to the register of the address's low four bits. -/
theorem readValue_tia (h : chipSelect (busAddr a) = .tia) : readValue (busAddr a) s =
    tiaRead s.tia (BitVec.ofNat 4 (a.toNat % 16)) (Config.undriven s.draws) (fun n => Config.paddle n s.draws)
      (Config.button4 s.draws) (Config.button5 s.draws) := by
  have reg : (busAddr a).extractLsb' 0 4 = BitVec.ofNat 4 (a.toNat % 16) := by
    rw [extractLsb'_zero_eq_ofNat, busAddr_toNat]
    exact congrArg _ (by omega)
  simp only [readValue, h, tiaReadNow, reg]

theorem riotAfterRead_of_tia (h : chipSelect (busAddr a) = .tia) : riotAfterRead (busAddr a) s = s.riot := by
  simp only [riotAfterRead, h]

/-- A dumped paddle reads 0 (R441). -/
theorem readValue_dumped (h : chipSelect (busAddr a) = .tia) (hlo : 8 ≤ a.toNat % 16) (hhi : a.toNat % 16 ≤ 11)
    (hd : s.tia.vblankDump = true) : (readValue (busAddr a) s).getLsbD 7 = false := by
  have paddles : a.toNat % 16 = 8 ∨ a.toNat % 16 = 9 ∨ a.toNat % 16 = 10 ∨ a.toNat % 16 = 11 := by omega
  have dumped : ∀ b : Bool, (!s.tia.vblankDump && b) = false := fun b => by rw [hd]; rfl
  rw [readValue_tia h]
  rcases paddles with h | h | h | h <;> rw [h] <;> exact (readBits_seven _ _ _).trans (dumped _)

/-- A latched fire button reads its latch (R442). -/
theorem readValue_button (h : chipSelect (busAddr a) = .tia) (hl : s.tia.vblankLatch = true) :
    (a.toNat % 16 = 12 → (readValue (busAddr a) s).getLsbD 7 = s.tia.inptLatch4) ∧
    (a.toNat % 16 = 13 → (readValue (busAddr a) s).getLsbD 7 = s.tia.inptLatch5) := by
  rw [readValue_tia h]
  constructor <;> intro h <;> rw [h] <;> exact (readBits_seven _ _ _).trans (if_pos hl)

/-- A read cycle that selects the TIA, with RDY high: the byte, then three clocks of the unchanged TIA (R87, R90). -/
theorem memRead_tia (h : Ready s) (hrdy : s.tia.rdy = true) (hsel : chipSelect (busAddr a) = .tia) :
    ∃ t p1 p2 p3, memRead a s = .next (readValue (busAddr a) s, t) ∧ tiaRun [p1, p2, p3] s.tia = .ok t.tia := by
  obtain ⟨_, t, -, e, -⟩ := memRead_ready a h
  obtain ⟨s1, e1, hb, et⟩ := memRead_eq_next e
  cases (stall_rdy hrdy).symm.trans e1
  obtain ⟨p1, p2, p3, -, -, -, -, idle⟩ := tick_tia (s := (afterRead a (s.setHalted false)).noteCycle) h.2.2 et
  refine ⟨t, p1, p2, p3, ?_, idle h.1⟩
  rw [e, hb, readValue_tia hsel, readValue_tia hsel]
  rfl

end read

/-! ### The button latches (62_tia_objects.md R442, R384) -/

/-- The VBLANK latch bit and the button latches after a clock, from those after its service. -/
theorem latchStage_buttons {write : Option (BitVec 6 × Byte)} {b4 b5 : Bool} {t w : Tia}
    (latches : w.latches = (latchServe write t).latches) :
    (restOfClock (b4, b5) w).vblankLatch = (latchServe write t).vblankLatch ∧
    (restOfClock (b4, b5) w).inptLatch4 =
      ((latchServe write t).inptLatch4 && (!(latchServe write t).vblankLatch || b4)) ∧
    (restOfClock (b4, b5) w).inptLatch5 =
      ((latchServe write t).inptLatch5 && (!(latchServe write t).vblankLatch || b5)) := by
  have latch : w.vblankLatch = (latchServe write t).vblankLatch := (congrArg Tia.vblankLatch latches :)
  have four : w.inptLatch4 = (latchServe write t).inptLatch4 := (congrArg Tia.inptLatch4 latches :)
  have five : w.inptLatch5 = (latchServe write t).inptLatch5 := (congrArg Tia.inptLatch5 latches :)
  rw [← latch, ← four, ← five]
  refine ⟨rfl, ?_, ?_⟩
  · change (if w.vblankLatch then w.inptLatch4 && b4 else w.inptLatch4) = _
    cases w.vblankLatch <;> simp
  · change (if w.vblankLatch then w.inptLatch5 && b5 else w.inptLatch5) = _
    cases w.vblankLatch <;> simp

/-- A VBLANK write sets the latch bit, and the button latches if that is 0. -/
theorem latchServe_vblank {write : Option (BitVec 6 × Byte)} {v : Byte} (h : write = some (0x01, v)) (t : Tia) :
    (latchServe write t).vblankLatch = v.getLsbD 6 ∧
    (latchServe write t).inptLatch4 = (t.inptLatch4 || !v.getLsbD 6) ∧
    (latchServe write t).inptLatch5 = (t.inptLatch5 || !v.getLsbD 6) := by
  subst h
  change (writeVblank v t).vblankLatch = _ ∧ (writeVblank v t).inptLatch4 = _ ∧ (writeVblank v t).inptLatch5 = _
  rw [writeVblank_eq]
  exact ⟨rfl, rfl, rfl⟩

/-- No other write sets them. -/
theorem latchServe_noVblank {write : Option (BitVec 6 × Byte)} (h : ∀ v, write ≠ some (0x01, v)) (t : Tia) :
    (latchServe write t).vblankLatch = t.vblankLatch ∧ (latchServe write t).inptLatch4 = t.inptLatch4 ∧
    (latchServe write t).inptLatch5 = t.inptLatch5 := by
  unfold latchServe
  split
  · exact ⟨rfl, rfl, rfl⟩
  next reg v =>
    unfold latchWrite
    split
    next h1 => exact absurd (congrArg (fun r => some (r, v)) (BitVec.eq_of_toNat_eq h1)) (h v)
    · exact ⟨rfl, rfl, rfl⟩
    · exact ⟨rfl, rfl, rfl⟩

/-- Settles O53: each register's two bits, and what the service of a VBLANK write does to the latches. -/
theorem tiaReadsAndButtonLatches : Obligations.TiaReadsAndButtonLatches := by
  unfold Obligations.TiaReadsAndButtonLatches
  refine ⟨fun s a hsel => ?_, fun t u service b4 b5 sig e => ?_⟩
  · have two : ∀ {b7 b6 : Bool}, readValue (busAddr a) s = readBits b7 b6 (Config.undriven s.draws) →
        (readValue (busAddr a) s).getLsbD 7 = b7 ∧ (readValue (busAddr a) s).getLsbD 6 = b6 := by
      intro b7 b6 h
      rw [h]
      exact ⟨readBits_seven _ _ _, readBits_six _ _ _⟩
    have read := readValue_tia (s := s) hsel
    refine ⟨fun h => two ?_, fun h => two ?_, fun h => two ?_, fun h => two ?_, fun h => two ?_, fun h => two ?_,
      fun h => (two (b6 := (Config.undriven s.draws).getLsbD 6) ?_).1, fun h => two ?_,
      readValue_dumped hsel, fun h hl => (readValue_button hsel hl).1 h,
      fun h hl => (readValue_button hsel hl).2 h, rfl, riotAfterRead_of_tia hsel,
      fun h hrdy => memRead_tia h hrdy hsel⟩
    all_goals rw [read, h]; rfl
  · obtain ⟨w, rfl, -, latches⟩ := tiaStep_served e
    obtain ⟨latch, four, five⟩ := latchStage_buttons (b4 := b4) (b5 := b5) latches
    rw [latch, four, five]
    have serves : ∀ v, servedIn service t = some (0x01, v) ↔ service = true ∧ t.inbox = some (0x01, v) := by
      intro v
      cases service <;> simp [servedIn]
    by_cases served : ∃ v, servedIn service t = some (0x01, v)
    · obtain ⟨v, hv⟩ := served
      obtain ⟨hs, hi⟩ := (serves v).1 hv
      obtain ⟨l, i4, i5⟩ := latchServe_vblank hv (queued t)
      rw [l, i4, i5]
      refine ⟨fun h => ?_, fun h => ?_, fun h hn => absurd ⟨hs, v, hi, h⟩ hn⟩
      · rw [h]
        simp [queued]
      · obtain ⟨-, v', hi', h6⟩ := h
        cases hi.symm.trans hi'
        rw [h6]
        simp
    · obtain ⟨l, i4, i5⟩ := latchServe_noVblank (fun v hv => served ⟨v, hv⟩) (queued t)
      rw [l, i4, i5]
      refine ⟨fun h => ?_, fun h => ?_, fun h _ => ?_⟩
      · rw [h]
        simp [queued]
      · obtain ⟨hs, v, hi, -⟩ := h
        exact absurd ⟨v, (serves v).2 ⟨hs, hi⟩⟩ served
      · rw [h]
        simp [queued]

end Sys2Proof.Machine
end

section
/-! PROOFS of the family 62_tia_objects.md, the pixel. -/

namespace Sys2Proof.Machine

/-! ### The movable objects (62_tia_objects.md R410 to R413) -/

/-- The copy offsets as numbers, by the mode as a number (R410). -/
def offsetsOf (mode : Nat) : List Nat :=
  if mode = 1 then [0, 16] else if mode = 2 then [0, 32] else if mode = 3 then [0, 16, 32]
  else if mode = 4 then [0, 64] else if mode = 6 then [0, 32, 64] else [0]

theorem copyOffsets_val (mode : BitVec 3) : (copyOffsets mode).map Fin.val = offsetsOf mode.toNat := by
  revert mode
  decide

theorem playerScale_eq (mode : BitVec 3) :
    playerScale mode = if mode.toNat = 5 then 2 else if mode.toNat = 7 then 4 else 1 := by
  revert mode
  decide

theorem playerStart_val (mode : BitVec 3) :
    (playerStart mode).val = if mode.toNat = 5 ∨ mode.toNat = 7 then 1 else 0 := by
  revert mode
  decide

theorem mode_toNat (pl : Player) : pl.mode.toNat = pl.nusiz.toNat % 8 := by
  rw [Player.mode, BitVec.extractLsb'_toNat]
  rfl

/-- Bits 5 and 4 of a six-bit register as a number. -/
theorem sizeBits_toNat (b : BitVec 6) : (b.extractLsb' 4 2).toNat = b.toNat / 16 := by
  have := b.isLt
  rw [BitVec.extractLsb'_toNat, Nat.shiftRight_eq_div_pow]
  omega

/-- Something of an offset of the mode, as of its number. -/
theorem exists_offset (mode : BitVec 3) (P : Nat → Prop) :
    (∃ off ∈ copyOffsets mode, P off.val) ↔ ∃ off ∈ offsetsOf mode.toNat, P off := by
  rw [← copyOffsets_val]
  simp

/-- The distance of a counter from an offset, modulo 160. -/
theorem sub_val (p a : Fin 160) : (p - a).val = (p.val + 320 - a.val) % 160 := by
  rw [Fin.val_sub]
  omega

theorem sub_sub_val (p a b : Fin 160) (hb : b.val ≤ 1) : (p - a - b).val = (p.val + 320 - a.val - b.val) % 160 := by
  have := a.isLt
  rw [sub_val, sub_val]
  omega

/-- The place of a player's counter in a copy: the distance from where the copy starts (R411). -/
def placeIn (pl : Player) (p : Fin 160) (off : Nat) : Nat := (p.val + 320 - off - (playerStart pl.mode).val) % 160

theorem copyOn_iff (pl : Player) (p off : Fin 160) : copyOn pl p off = true ↔
    placeIn pl p off.val < 8 * playerScale pl.mode ∧
      pl.shown.getLsbD (if pl.refp then placeIn pl p off.val / playerScale pl.mode
        else 7 - placeIn pl p off.val / playerScale pl.mode) = true := by
  have start : (playerStart pl.mode).val ≤ 1 := by
    rw [playerStart_val]
    split <;> decide
  have place : (p - off - playerStart pl.mode).val = placeIn pl p off.val := sub_sub_val _ _ _ start
  rw [copyOn, place, Bool.and_eq_true, decide_eq_true_eq]
  cases pl.refp <;> rfl

theorem playerOn_iff (pl : Player) (p : Fin 160) : playerOn pl p = true ↔ ∃ off ∈ offsetsOf pl.mode.toNat,
    placeIn pl p off < 8 * playerScale pl.mode ∧
      pl.shown.getLsbD (if pl.refp then placeIn pl p off / playerScale pl.mode
        else 7 - placeIn pl p off / playerScale pl.mode) = true := by
  rw [playerOn, List.any_eq_true, ← exists_offset]
  simp only [copyOn_iff]

theorem missileOn_iff (pl : Player) (p : Fin 160) : missileOn pl p = true ↔ pl.enam = true ∧ pl.resmp = false ∧
    ∃ off ∈ offsetsOf pl.mode.toNat, (p.val + 320 - off) % 160 < 2 ^ (pl.nusiz.toNat / 16) := by
  rw [missileOn, Bool.and_eq_true, Bool.and_eq_true, Bool.not_eq_true', List.any_eq_true, ← exists_offset, and_assoc]
  simp only [decide_eq_true_eq, sub_val, sizeBits_toNat]

theorem ballOn_iff (t : Tia) : ballOn t = true ↔ (if t.vdelbl then t.enablOld else t.enablNew) = true ∧
    t.pos.bl.val < 2 ^ (t.ctrlpf.toNat / 16) := by
  rw [ballOn, Bool.and_eq_true, decide_eq_true_eq, sizeBits_toNat]

/-- Settles O54, object by object, with the mode's rows as numbers. -/
theorem objectPixels : Obligations.ObjectPixels := by
  unfold Obligations.ObjectPixels
  intro t pl p mode offsets scale start g
  have player := playerOn_iff pl p
  have missile := missileOn_iff pl p
  simp only [placeIn, playerScale_eq, playerStart_val, mode_toNat] at player missile
  exact ⟨player, missile, ballOn_iff t, rfl⟩

/-! ### The playfield (62_tia_objects.md R420, R421) -/

theorem buildPlayfield_getLsbD (a b c : Byte) {j : Nat} (h : j < 20) : (buildPlayfield a b c).getLsbD j =
    if j < 4 then a.getLsbD (4 + j) else if j < 12 then b.getLsbD (11 - j) else c.getLsbD (j - 12) := by
  simp only [buildPlayfield, BitVec.getLsbD_append, BitVec.getLsbD_extractLsb', BitVec.getLsbD_reverse,
    BitVec.getMsbD]
  by_cases h4 : j < 4
  · simp [h4]
  · by_cases h12 : j < 12
    · have reversed : 8 - 1 - (j - 4) = 11 - j := by omega
      have inPf1 : j - 4 < 8 := by omega
      simp only [h4, h12, inPf1, reversed, if_true, if_false, decide_true, Bool.true_and]
    · have inPf2 : j - 4 - 8 = j - 12 := by omega
      have notPf1 : ¬ j - 4 < 8 := by omega
      simp only [h4, h12, notPf1, inPf2, if_false]

theorem playfieldOn_blank {t : Tia} (h : t.cc < 68) : playfieldOn t = false := by
  rw [playfieldOn, decide_eq_false (by omega), Bool.false_and]

theorem playfieldOn_visible {t : Tia} (h : 68 ≤ t.cc) :
    playfieldOn t = t.pfWork.getLsbD (playfieldIndex (t.ctrlpf.getLsbD 0) (t.cc - 68)) := by
  rw [playfieldOn, decide_eq_true h, Bool.true_and]

theorem playfieldIndex_left {reflect : Bool} {x j : Nat} (hj : j < 20) (h : x / 4 = j) :
    playfieldIndex reflect x = j := by
  rw [playfieldIndex, if_pos (by omega), h]

theorem playfieldIndex_right {reflect : Bool} {x j : Nat} (h : x / 4 = 20 + j) :
    playfieldIndex reflect x = if reflect then 19 - j else j := by
  have index : (x - 80) / 4 = j := by omega
  rw [playfieldIndex, if_neg (by omega), index]

/-- Settles O55, half by half. -/
theorem playfieldBits : Obligations.PlayfieldBits := by
  unfold Obligations.PlayfieldBits
  refine ⟨fun a b c j h => buildPlayfield_getLsbD a b c h, fun t => ⟨playfieldOn_blank, fun j hj h => ?_,
    fun j hj h => ?_⟩⟩
  · rw [playfieldOn_visible (by omega), playfieldIndex_left hj (by omega)]
  · rw [playfieldOn_visible (by omega), playfieldIndex_right (j := j) (by omega)]

/-! ### Blanking and priority (62_tia_objects.md R430) -/

theorem pixelOf_blank {t : Tia} {on : OnFlags} (h : t.hblank = true ∨ t.vblankVideo = true) : pixelOf t on = none :=
  if_pos (Bool.or_eq_true_iff.2 h)

theorem pixelOf_shown {t : Tia} {on : OnFlags} (hh : t.hblank = false) (hv : t.vblankVideo = false) :
    pixelOf t on = some (pixelColour t on) := by
  rw [pixelOf, hh, hv]
  rfl

/-- The colour with the players before the playfield. -/
theorem pixelColour_players {t : Tia} {on : OnFlags} (h : t.ctrlpf.getLsbD 2 = false) : pixelColour t on =
    if on.p0 || on.m0 then t.pl0.colup
    else if on.p1 || on.m1 then t.pl1.colup
    else if on.pf then playfieldColour t
    else if on.bl then t.colupf
    else t.colubk := by
  rw [pixelColour, h, if_neg Bool.false_ne_true]

/-- The colour with the playfield before the players: no score mode. -/
theorem pixelColour_playfield {t : Tia} {on : OnFlags} (h : t.ctrlpf.getLsbD 2 = true) : pixelColour t on =
    if on.pf || on.bl then t.colupf
    else if on.p0 || on.m0 then t.pl0.colup
    else if on.p1 || on.m1 then t.pl1.colup
    else t.colubk := by
  have noScore : playfieldColour t = t.colupf := by
    rw [playfieldColour, h]
    simp
  rw [pixelColour, h, if_pos rfl, noScore]
  cases on.pf <;> cases on.bl <;> rfl

/-- Settles O56, by the two orders of priority. -/
theorem pixelPriority : Obligations.PixelPriority := by
  unfold Obligations.PixelPriority
  intro t on left score pfc
  refine ⟨pixelOf_blank, fun hh hv => ?_⟩
  rw [pixelOf_shown hh hv]
  refine ⟨fun h => ?_, fun h => ?_, fun h => ?_⟩
  · have colour : playfieldColour t = pfc := by
      simp only [pfc, score, left, playfieldColour, decide_eq_true_eq]
    rw [pixelColour_players h, colour]
    refine ⟨fun h0 => ?_, fun h0 h1 h2 => ?_, fun h0 h1 h2 h3 h4 => ?_, fun h0 h1 h2 h3 h4 h5 => ?_⟩
    · rw [if_pos (Bool.or_eq_true_iff.2 h0)]
    · simp [h0, h1, h2]
    · simp [h0, h1, h2, h3, h4]
    · simp [h0, h1, h2, h3, h4, h5]
  · rw [pixelColour_playfield h]
    refine ⟨fun h0 => ?_, fun h0 h1 h2 => ?_, fun h0 h1 h2 h3 h4 => ?_⟩
    · rw [if_pos (Bool.or_eq_true_iff.2 h0)]
    · simp [h0, h1, h2]
    · simp [h0, h1, h2, h3, h4]
  · subst h
    simp [pixelColour]

end Sys2Proof.Machine
end

section
/-! PROOFS of the family 63_riot.md, the timer and the PA7 edge. -/

namespace Sys2Proof.Machine

/-! ### The timer (63_riot.md R452 to R454) -/

/-- What holds at first and is kept by every RIOT step of a run holds at its end. -/
theorem riotRun_induct {pins : List Bool} : ∀ {I : Nat → Riot → Prop} {r : Riot}, I 0 r →
    (∀ k u pin, k < pins.length → I k u → I (k + 1) (riotStep pin u)) → I pins.length (riotRun pins r) := by
  induction pins with
  | nil => exact fun h0 _ => h0
  | cons pin pins ih =>
    intro I r h0 hs
    exact ih (I := fun k => I (k + 1)) (hs 0 r pin (Nat.zero_lt_succ _) h0)
      fun k u pin hk => hs (k + 1) u pin (Nat.succ_lt_succ hk)

/-- c ticks after the prescaler was last at its divisor with the count n. -/
structure Counting (d : Divisor) (n c : Nat) (r : Riot) : Prop where
  inbox    : r.inbox = none
  divisor  : r.divisor = d
  expired  : r.expired = false
  intim    : r.intim.toNat + c / d.cycles = n
  prescale : r.prescale + c % d.cycles = d.cycles

/-- The timer has underflowed in this step. -/
structure Underflown (r : Riot) : Prop where
  intim      : r.intim = 0xFF
  expired    : r.expired = true
  expiredNow : r.expiredNow = true
  divisor    : r.divisor = .d1

theorem riotStep_of_no_write {r : Riot} (h : r.inbox = none) (pin : Bool) :
    riotStep pin r = detectEdge pin (timerTick { r with expiredNow := false }) := by
  simp only [riotStep, serviceAndTick, h]

/-- Of one tick more, the prescaler counts it or the count does. -/
theorem Divisor.tick_cases (d : Divisor) (c : Nat) :
    (c % d.cycles + 1 < d.cycles ∧ (c + 1) / d.cycles = c / d.cycles ∧ (c + 1) % d.cycles = c % d.cycles + 1) ∨
    (c % d.cycles + 1 = d.cycles ∧ (c + 1) / d.cycles = c / d.cycles + 1 ∧ (c + 1) % d.cycles = 0) := by
  cases d <;> simp only [Divisor.cycles] <;> omega

section counting
variable {d : Divisor} {n c : Nat} {r : Riot}

theorem Counting.step (h : Counting d n c r) (hc : (c + 1) / d.cycles ≤ n) (pin : Bool) :
    Counting d n (c + 1) (riotStep pin r) := by
  rw [riotStep_of_no_write h.inbox]
  have intim := h.intim
  have prescale := h.prescale
  obtain ⟨more, div, mod⟩ | ⟨last, div, mod⟩ := d.tick_cases c
  · have waits : ¬ r.prescale - 1 = 0 := by omega
    rw [timerTick, if_neg waits]
    exact ⟨h.inbox, h.divisor, h.expired, by rw [div]; exact intim, by
      change r.prescale - 1 + _ = _
      omega⟩
  · have counts : r.prescale - 1 = 0 := by omega
    have pos : r.intim.toNat ≠ 0 := by omega
    have ne : r.intim ≠ 0 := fun k => pos (by rw [k]; rfl)
    rw [timerTick, if_pos counts, timerCount, if_neg ne]
    refine ⟨h.inbox, h.divisor, h.expired, ?_, ?_⟩
    · change (r.intim - 1).toNat + _ = _
      have pred : (r.intim - 1).toNat = r.intim.toNat - 1 := by bv_omega
      omega
    · change r.divisor.cycles + _ = _
      rw [h.divisor, mod, Nat.add_zero]

theorem Counting.underflow (h : Counting d n c r) (hc : (c + 1) / d.cycles = n + 1) (pin : Bool) :
    Underflown (riotStep pin r) := by
  rw [riotStep_of_no_write h.inbox]
  have intim := h.intim
  have prescale := h.prescale
  obtain ⟨more, div, mod⟩ | ⟨last, div, mod⟩ := d.tick_cases c
  · omega
  · have counts : r.prescale - 1 = 0 := by omega
    have zero : r.intim = 0 := BitVec.eq_of_toNat_eq (by change r.intim.toNat = 0; omega)
    rw [timerTick, if_pos counts, timerCount, if_pos zero]
    exact ⟨rfl, rfl, rfl, rfl⟩

end counting

/-- A serviced timer write: the next tick counts. -/
theorem riotStep_timer {r : Riot} {d : Divisor} {n : Byte} (h : r.inbox = some (.timer d, n)) (pin : Bool) :
    Counting d n.toNat (d.cycles - 1) (riotStep pin r) := by
  have step : riotStep pin r = detectEdge pin (loadTimer d n { r with inbox := none, expiredNow := false }) := by
    simp only [riotStep, serviceAndTick, h]
    rfl
  rw [step]
  refine ⟨rfl, rfl, rfl, ?_, ?_⟩
  · change n.toNat + _ = _
    cases d <;> rfl
  · change 1 + _ = _
    cases d <;> rfl

/-- The steps after a timer write count down to its underflow. -/
theorem riotRun_timer {r : Riot} {d : Divisor} {n : Byte} (h : r.inbox = some (.timer d, n)) (pin : Bool)
    (pins : List Bool) :
    (pins.length ≤ n.toNat * d.cycles →
      Counting d n.toNat (pins.length + (d.cycles - 1)) (riotRun pins (riotStep pin r))) ∧
    (pins.length = n.toNat * d.cycles + 1 → Underflown (riotRun pins (riotStep pin r))) := by
  refine riotRun_induct (I := fun k u => (k ≤ n.toNat * d.cycles → Counting d n.toNat (k + (d.cycles - 1)) u) ∧
    (k = n.toNat * d.cycles + 1 → Underflown u)) ⟨fun _ => ?_, nofun⟩
    fun k u p _ i => ⟨fun hk => ?_, fun hk => ?_⟩
  · rw [Nat.zero_add]
    exact riotStep_timer h pin
  · have step := (i.1 (by omega)).step (pin := p) (by cases d <;> simp only [Divisor.cycles] at hk ⊢ <;> omega)
    rw [Nat.add_right_comm]
    exact step
  · exact (i.1 (by omega)).underflow (by cases d <;> simp only [Divisor.cycles] at hk ⊢ <;> omega) p

/-- Settles O57, by the ticks since the write. -/
theorem timerCountsDown : Obligations.TimerCountsDown := by
  unfold Obligations.TimerCountsDown
  intro r d n pin pins _ h r1
  obtain ⟨counting, underflow⟩ := riotRun_timer h pin pins
  refine ⟨fun h0 => ?_, fun k j h1 hj hk hp => ?_, fun hp => ?_⟩
  · have i := (counting (by omega)).intim
    rw [h0] at i
    refine BitVec.eq_of_toNat_eq ?_
    cases d <;> exact i
  · have i := counting (by rw [hp]; cases d <;> simp only [Divisor.cycles] at hj ⊢ <;> omega)
    have count : (pins.length + (d.cycles - 1)) / d.cycles = k + 1 := by
      rw [hp]
      cases d <;> simp only [Divisor.cycles] at hj ⊢ <;> omega
    have left := i.intim
    rw [count] at left
    refine ⟨BitVec.eq_of_toNat_eq ?_, i.expired⟩
    have lt := n.isLt
    rw [BitVec.toNat_ofNat, Nat.mod_eq_of_lt (by omega)]
    change (riotRun pins (riotStep pin r)).intim.toNat = _
    omega
  · obtain ⟨intim, expired, now, divisor⟩ := underflow hp
    exact ⟨intim, expired, now, divisor⟩

/-! ### The PA7 edge (63_riot.md R463) -/

/-- Neither a write nor a tick moves the flag or the sample. -/
theorem serviceAndTick_pa7 (r : Riot) :
    (serviceAndTick r).pa7Flag = r.pa7Flag ∧ (serviceAndTick r).pa7Prev = r.pa7Prev := by
  have count : ∀ u : Riot, (timerCount u).pa7Flag = u.pa7Flag ∧ (timerCount u).pa7Prev = u.pa7Prev := by
    intro u
    unfold timerCount
    split <;> exact ⟨rfl, rfl⟩
  have tick : ∀ u : Riot, (timerTick u).pa7Flag = u.pa7Flag ∧ (timerTick u).pa7Prev = u.pa7Prev := by
    intro u
    unfold timerTick
    split
    · exact count u
    · exact ⟨rfl, rfl⟩
  have write : ∀ reg v u, (riotWrite reg v u).pa7Flag = u.pa7Flag ∧ (riotWrite reg v u).pa7Prev = u.pa7Prev := by
    intro reg v u
    cases reg <;> exact ⟨rfl, rfl⟩
  unfold serviceAndTick
  split
  · exact tick r
  · exact write _ _ _
  next reg v _ _ =>
    obtain ⟨flag, prev⟩ := tick (riotWrite reg v { r with inbox := none })
    obtain ⟨wflag, wprev⟩ := write reg v { r with inbox := none }
    exact ⟨flag.trans wflag, prev.trans wprev⟩

/-- Settles O59, by the selected edge. -/
theorem pa7EdgeSetsTheFlag : Obligations.Pa7EdgeSetsTheFlag := by
  unfold Obligations.Pa7EdgeSetsTheFlag
  intro r pin r1 level
  obtain ⟨flag, prev⟩ := serviceAndTick_pa7 { r with expiredNow := false }
  have edge : r1.pa7Flag = ((serviceAndTick { r with expiredNow := false }).pa7Flag ||
      if r1.edgeRising then !(serviceAndTick { r with expiredNow := false }).pa7Prev && level
      else (serviceAndTick { r with expiredNow := false }).pa7Prev && !level) := rfl
  rw [flag, prev] at edge
  refine ⟨rfl, ?_⟩
  rw [edge]
  cases r1.edgeRising <;> simp

end Sys2Proof.Machine
end
